-- ==== Sys2Proof/Word.lean ====
section
/-! DEFINITION. The two widths of the Z80 core: 8-bit data and 16-bit addresses (00_scope.md R104). -/

namespace Sys2Proof

/-- Data is 8 bits wide (R104). -/
abbrev Byte := BitVec 8

/-- Addresses, register pairs, IX, IY, SP and PC are 16 bits wide (R104). -/
abbrev Word := BitVec 16

end Sys2Proof
end

