-- ==== Sys2Proof/Syntax.lean ====
section
/-! DEFINITION. The instruction set as syntax: one constructor of `Instr` for each row of
spec/opcode_table.json, in the table's order. Register numbers and operation codes are names here; the
machine never sees a raw encoding. The operand selectors are closed enumerations, so that an invalid
selector cannot be written down (10_state.md R203). -/

namespace Sys2Proof

/-- The 8-bit register operand `r`: the 3-bit register field without 110 (10_state.md R204). -/
inductive Reg8 where
  | b | c | d | e | h | l | a
deriving DecidableEq, Repr

/-- The pair operand `dd` or `ss` (10_state.md R205). -/
inductive PairDD where
  | bc | de | hl | sp
deriving DecidableEq, Repr

/-- The pair operand `qq` of PUSH and POP (10_state.md R205). -/
inductive PairQQ where
  | bc | de | hl | af
deriving DecidableEq, Repr

/-- The pair operand `pp` of ADD IX,pp (10_state.md R205). -/
inductive PairPP where
  | bc | de | ix | sp
deriving DecidableEq, Repr

/-- The pair operand `rr` of ADD IY,rr (10_state.md R205). -/
inductive PairRR where
  | bc | de | iy | sp
deriving DecidableEq, Repr

/-- The condition `cc` (30_encoding.md R409). -/
inductive Cond where
  | nz | z | nc | c | po | pe | p | m
deriving DecidableEq, Repr

/-- One constructor per row of spec/opcode_table.json. `d` and `e` are the raw displacement bytes, read
as signed (R421); `n` is an 8-bit and `nn` a 16-bit immediate (R420); `b` is a bit number (R410); `t` is
the restart number (R411). -/
inductive Instr where
  /-- `LD r,r'` (R601) -/
  | ldRR (r : Reg8) (r' : Reg8)
  /-- `LD r,n` (R602) -/
  | ldRN (r : Reg8) (n : Byte)
  /-- `LD r,(HL)` (R603) -/
  | ldRHl (r : Reg8)
  /-- `LD r,(IX+d)` (R604) -/
  | ldRIxD (r : Reg8) (d : Byte)
  /-- `LD r,(IY+d)` (R605) -/
  | ldRIyD (r : Reg8) (d : Byte)
  /-- `LD (HL),r` (R606) -/
  | ldHlR (r : Reg8)
  /-- `LD (IX+d),r` (R607) -/
  | ldIxDR (d : Byte) (r : Reg8)
  /-- `LD (IY+d),r` (R608) -/
  | ldIyDR (d : Byte) (r : Reg8)
  /-- `LD (HL),n` (R609) -/
  | ldHlN (n : Byte)
  /-- `LD (IX+d),n` (R610) -/
  | ldIxDN (d : Byte) (n : Byte)
  /-- `LD (IY+d),n` (R611) -/
  | ldIyDN (d : Byte) (n : Byte)
  /-- `LD A,(BC)` (R612) -/
  | ldABc
  /-- `LD A,(DE)` (R613) -/
  | ldADe
  /-- `LD A,(nn)` (R614) -/
  | ldANn (nn : Word)
  /-- `LD (BC),A` (R615) -/
  | ldBcA
  /-- `LD (DE),A` (R616) -/
  | ldDeA
  /-- `LD (nn),A` (R617) -/
  | ldNnA (nn : Word)
  /-- `LD A,I` (R618) -/
  | ldAI
  /-- `LD A,R` (R619) -/
  | ldAR
  /-- `LD I,A` (R620) -/
  | ldIA
  /-- `LD R,A` (R621) -/
  | ldRA
  /-- `LD dd,nn` (R701) -/
  | ldDdNn (dd : PairDD) (nn : Word)
  /-- `LD IX,nn` (R702) -/
  | ldIxNn (nn : Word)
  /-- `LD IY,nn` (R703) -/
  | ldIyNn (nn : Word)
  /-- `LD HL,(nn)` (R704) -/
  | ldHlMem (nn : Word)
  /-- `LD dd,(nn)` (R705) -/
  | ldDdMem (dd : PairDD) (nn : Word)
  /-- `LD IX,(nn)` (R706) -/
  | ldIxMem (nn : Word)
  /-- `LD IY,(nn)` (R707) -/
  | ldIyMem (nn : Word)
  /-- `LD (nn),HL` (R708) -/
  | ldMemHl (nn : Word)
  /-- `LD (nn),dd` (R709) -/
  | ldMemDd (nn : Word) (dd : PairDD)
  /-- `LD (nn),IX` (R710) -/
  | ldMemIx (nn : Word)
  /-- `LD (nn),IY` (R711) -/
  | ldMemIy (nn : Word)
  /-- `LD SP,HL` (R712) -/
  | ldSpHl
  /-- `LD SP,IX` (R713) -/
  | ldSpIx
  /-- `LD SP,IY` (R714) -/
  | ldSpIy
  /-- `PUSH qq` (R715) -/
  | pushQq (qq : PairQQ)
  /-- `PUSH IX` (R716) -/
  | pushIx
  /-- `PUSH IY` (R717) -/
  | pushIy
  /-- `POP qq` (R718) -/
  | popQq (qq : PairQQ)
  /-- `POP IX` (R719) -/
  | popIx
  /-- `POP IY` (R720) -/
  | popIy
  /-- `ADD A,r` (R801) -/
  | addAR (r : Reg8)
  /-- `ADD A,n` (R802) -/
  | addAN (n : Byte)
  /-- `ADD A,(HL)` (R803) -/
  | addAHl
  /-- `ADD A,(IX+d)` (R804) -/
  | addAIxD (d : Byte)
  /-- `ADD A,(IY+d)` (R805) -/
  | addAIyD (d : Byte)
  /-- `ADC A,r` (R806) -/
  | adcAR (r : Reg8)
  /-- `ADC A,n` (R807) -/
  | adcAN (n : Byte)
  /-- `ADC A,(HL)` (R808) -/
  | adcAHl
  /-- `ADC A,(IX+d)` (R809) -/
  | adcAIxD (d : Byte)
  /-- `ADC A,(IY+d)` (R810) -/
  | adcAIyD (d : Byte)
  /-- `SUB r` (R811) -/
  | subR (r : Reg8)
  /-- `SUB n` (R812) -/
  | subN (n : Byte)
  /-- `SUB (HL)` (R813) -/
  | subHl
  /-- `SUB (IX+d)` (R814) -/
  | subIxD (d : Byte)
  /-- `SUB (IY+d)` (R815) -/
  | subIyD (d : Byte)
  /-- `SBC A,r` (R816) -/
  | sbcAR (r : Reg8)
  /-- `SBC A,n` (R817) -/
  | sbcAN (n : Byte)
  /-- `SBC A,(HL)` (R818) -/
  | sbcAHl
  /-- `SBC A,(IX+d)` (R819) -/
  | sbcAIxD (d : Byte)
  /-- `SBC A,(IY+d)` (R820) -/
  | sbcAIyD (d : Byte)
  /-- `AND r` (R821) -/
  | andR (r : Reg8)
  /-- `AND n` (R822) -/
  | andN (n : Byte)
  /-- `AND (HL)` (R823) -/
  | andHl
  /-- `AND (IX+d)` (R824) -/
  | andIxD (d : Byte)
  /-- `AND (IY+d)` (R825) -/
  | andIyD (d : Byte)
  /-- `OR r` (R826) -/
  | orR (r : Reg8)
  /-- `OR n` (R827) -/
  | orN (n : Byte)
  /-- `OR (HL)` (R828) -/
  | orHl
  /-- `OR (IX+d)` (R829) -/
  | orIxD (d : Byte)
  /-- `OR (IY+d)` (R830) -/
  | orIyD (d : Byte)
  /-- `XOR r` (R831) -/
  | xorR (r : Reg8)
  /-- `XOR n` (R832) -/
  | xorN (n : Byte)
  /-- `XOR (HL)` (R833) -/
  | xorHl
  /-- `XOR (IX+d)` (R834) -/
  | xorIxD (d : Byte)
  /-- `XOR (IY+d)` (R835) -/
  | xorIyD (d : Byte)
  /-- `CP r` (R836) -/
  | cpR (r : Reg8)
  /-- `CP n` (R837) -/
  | cpN (n : Byte)
  /-- `CP (HL)` (R838) -/
  | cpHl
  /-- `CP (IX+d)` (R839) -/
  | cpIxD (d : Byte)
  /-- `CP (IY+d)` (R840) -/
  | cpIyD (d : Byte)
  /-- `INC r` (R841) -/
  | incR (r : Reg8)
  /-- `INC (HL)` (R842) -/
  | incHl
  /-- `INC (IX+d)` (R843) -/
  | incIxD (d : Byte)
  /-- `INC (IY+d)` (R844) -/
  | incIyD (d : Byte)
  /-- `DEC r` (R845) -/
  | decR (r : Reg8)
  /-- `DEC (HL)` (R846) -/
  | decHl
  /-- `DEC (IX+d)` (R847) -/
  | decIxD (d : Byte)
  /-- `DEC (IY+d)` (R848) -/
  | decIyD (d : Byte)
  /-- `ADD HL,ss` (R901) -/
  | addHlSs (ss : PairDD)
  /-- `ADC HL,ss` (R902) -/
  | adcHlSs (ss : PairDD)
  /-- `SBC HL,ss` (R903) -/
  | sbcHlSs (ss : PairDD)
  /-- `ADD IX,pp` (R904) -/
  | addIxPp (pp : PairPP)
  /-- `ADD IY,rr` (R905) -/
  | addIyRr (rr : PairRR)
  /-- `INC ss` (R906) -/
  | incSs (ss : PairDD)
  /-- `INC IX` (R907) -/
  | incIx
  /-- `INC IY` (R908) -/
  | incIy
  /-- `DEC ss` (R909) -/
  | decSs (ss : PairDD)
  /-- `DEC IX` (R910) -/
  | decIx
  /-- `DEC IY` (R911) -/
  | decIy
  /-- `EX DE,HL` (R1000) -/
  | exDeHl
  /-- `EX AF,AF'` (R1001) -/
  | exAfAf
  /-- `EXX` (R1002) -/
  | exx
  /-- `EX (SP),HL` (R1003) -/
  | exSpHl
  /-- `EX (SP),IX` (R1004) -/
  | exSpIx
  /-- `EX (SP),IY` (R1005) -/
  | exSpIy
  /-- `LDI` (R1013) -/
  | ldi
  /-- `LDIR` (R1014) -/
  | ldir
  /-- `LDD` (R1015) -/
  | ldd
  /-- `LDDR` (R1016) -/
  | lddr
  /-- `CPI` (R1017) -/
  | cpi
  /-- `CPIR` (R1018) -/
  | cpir
  /-- `CPD` (R1019) -/
  | cpd
  /-- `CPDR` (R1020) -/
  | cpdr
  /-- `RLCA` (R1101) -/
  | rlca
  /-- `RLA` (R1102) -/
  | rla
  /-- `RRCA` (R1103) -/
  | rrca
  /-- `RRA` (R1104) -/
  | rra
  /-- `RLC r` (R1105) -/
  | rlcR (r : Reg8)
  /-- `RLC (HL)` (R1106) -/
  | rlcHl
  /-- `RLC (IX+d)` (R1107) -/
  | rlcIxD (d : Byte)
  /-- `RLC (IY+d)` (R1108) -/
  | rlcIyD (d : Byte)
  /-- `RL r` (R1109) -/
  | rlR (r : Reg8)
  /-- `RL (HL)` (R1110) -/
  | rlHl
  /-- `RL (IX+d)` (R1111) -/
  | rlIxD (d : Byte)
  /-- `RL (IY+d)` (R1112) -/
  | rlIyD (d : Byte)
  /-- `RRC r` (R1113) -/
  | rrcR (r : Reg8)
  /-- `RRC (HL)` (R1114) -/
  | rrcHl
  /-- `RRC (IX+d)` (R1115) -/
  | rrcIxD (d : Byte)
  /-- `RRC (IY+d)` (R1116) -/
  | rrcIyD (d : Byte)
  /-- `RR r` (R1117) -/
  | rrR (r : Reg8)
  /-- `RR (HL)` (R1118) -/
  | rrHl
  /-- `RR (IX+d)` (R1119) -/
  | rrIxD (d : Byte)
  /-- `RR (IY+d)` (R1120) -/
  | rrIyD (d : Byte)
  /-- `SLA r` (R1121) -/
  | slaR (r : Reg8)
  /-- `SLA (HL)` (R1122) -/
  | slaHl
  /-- `SLA (IX+d)` (R1123) -/
  | slaIxD (d : Byte)
  /-- `SLA (IY+d)` (R1124) -/
  | slaIyD (d : Byte)
  /-- `SRA r` (R1125) -/
  | sraR (r : Reg8)
  /-- `SRA (HL)` (R1126) -/
  | sraHl
  /-- `SRA (IX+d)` (R1127) -/
  | sraIxD (d : Byte)
  /-- `SRA (IY+d)` (R1128) -/
  | sraIyD (d : Byte)
  /-- `SRL r` (R1129) -/
  | srlR (r : Reg8)
  /-- `SRL (HL)` (R1130) -/
  | srlHl
  /-- `SRL (IX+d)` (R1131) -/
  | srlIxD (d : Byte)
  /-- `SRL (IY+d)` (R1132) -/
  | srlIyD (d : Byte)
  /-- `RLD` (R1133) -/
  | rld
  /-- `RRD` (R1134) -/
  | rrd
  /-- `BIT b,r` (R1201) -/
  | bitR (b : Fin 8) (r : Reg8)
  /-- `BIT b,(HL)` (R1202) -/
  | bitHl (b : Fin 8)
  /-- `BIT b,(IX+d)` (R1203) -/
  | bitIxD (b : Fin 8) (d : Byte)
  /-- `BIT b,(IY+d)` (R1204) -/
  | bitIyD (b : Fin 8) (d : Byte)
  /-- `SET b,r` (R1205) -/
  | setR (b : Fin 8) (r : Reg8)
  /-- `SET b,(HL)` (R1206) -/
  | setHl (b : Fin 8)
  /-- `SET b,(IX+d)` (R1207) -/
  | setIxD (b : Fin 8) (d : Byte)
  /-- `SET b,(IY+d)` (R1208) -/
  | setIyD (b : Fin 8) (d : Byte)
  /-- `RES b,r` (R1209) -/
  | resR (b : Fin 8) (r : Reg8)
  /-- `RES b,(HL)` (R1210) -/
  | resHl (b : Fin 8)
  /-- `RES b,(IX+d)` (R1211) -/
  | resIxD (b : Fin 8) (d : Byte)
  /-- `RES b,(IY+d)` (R1212) -/
  | resIyD (b : Fin 8) (d : Byte)
  /-- `JP nn` (R1301) -/
  | jpNn (nn : Word)
  /-- `JP cc,nn` (R1302) -/
  | jpCcNn (cc : Cond) (nn : Word)
  /-- `JR e` (R1303) -/
  | jrE (e : Byte)
  /-- `JR C,e` (R1304) -/
  | jrC (e : Byte)
  /-- `JR NC,e` (R1305) -/
  | jrNc (e : Byte)
  /-- `JR Z,e` (R1306) -/
  | jrZ (e : Byte)
  /-- `JR NZ,e` (R1307) -/
  | jrNz (e : Byte)
  /-- `JP (HL)` (R1308) -/
  | jpHl
  /-- `JP (IX)` (R1309) -/
  | jpIx
  /-- `JP (IY)` (R1310) -/
  | jpIy
  /-- `DJNZ e` (R1311) -/
  | djnz (e : Byte)
  /-- `CALL nn` (R1321) -/
  | callNn (nn : Word)
  /-- `CALL cc,nn` (R1322) -/
  | callCcNn (cc : Cond) (nn : Word)
  /-- `RET` (R1323) -/
  | ret
  /-- `RET cc` (R1324) -/
  | retCc (cc : Cond)
  /-- `RETI` (R1327) -/
  | reti
  /-- `RETN` (R1328) -/
  | retn
  /-- `RST p` (R1329) -/
  | rst (t : Fin 8)
  /-- `IN A,(n)` (R1401) -/
  | inAN (n : Byte)
  /-- `IN r,(C)` (R1402) -/
  | inRC (r : Reg8)
  /-- `INI` (R1403) -/
  | ini
  /-- `INIR` (R1404) -/
  | inir
  /-- `IND` (R1405) -/
  | ind
  /-- `INDR` (R1406) -/
  | indr
  /-- `OUT (n),A` (R1407) -/
  | outNA (n : Byte)
  /-- `OUT (C),r` (R1408) -/
  | outCR (r : Reg8)
  /-- `OUTI` (R1409) -/
  | outi
  /-- `OTIR` (R1410) -/
  | otir
  /-- `OUTD` (R1411) -/
  | outd
  /-- `OTDR` (R1412) -/
  | otdr
  /-- `DAA` (R1421) -/
  | daa
  /-- `CPL` (R1422) -/
  | cpl
  /-- `NEG` (R1423) -/
  | neg
  /-- `CCF` (R1424) -/
  | ccf
  /-- `SCF` (R1425) -/
  | scf
  /-- `NOP` (R1426) -/
  | nop
  /-- `HALT` (R1430) -/
  | halt
  /-- `DI` (R1431) -/
  | di
  /-- `EI` (R1432) -/
  | ei
  /-- `IM 0` (R1433) -/
  | im0
  /-- `IM 1` (R1434) -/
  | im1
  /-- `IM 2` (R1435) -/
  | im2
  /-- `unimplemented: CB 30..37, SLL on silicon` (R451) -/
  | unimplCb (z : Fin 8)
  /-- `unimplemented: ED second byte not in rule R432` (R451) -/
  | unimplEd (op : Byte)
  /-- `unimplemented: DD second byte not in rule R433 and not CB` (R452) -/
  | unimplDd (op : Byte)
  /-- `unimplemented: FD second byte not in rule R433 and not CB` (R452) -/
  | unimplFd (op : Byte)
  /-- `unimplemented: DD CB d op with z != 110, and DD CB d 36` (R453) -/
  | unimplDdCb (d : Byte) (op : Byte)
  /-- `unimplemented: FD CB d op with z != 110, and FD CB d 36` (R453) -/
  | unimplFdCb (d : Byte) (op : Byte)
deriving DecidableEq, Repr

end Sys2Proof
end

