-- ==== Sys2Proof/WellFormed.lean ====
section
/-! DEFINITION. Which instructions are well-formed. Register, pair, condition, bit and restart operands are
valid by their types (10_state.md R203), so the only terms to refuse are the unimplemented rows whose
opcode byte is in fact a defined one (30_encoding.md R432 to R434, R451 to R453). -/

namespace Sys2Proof

/-- The 58 second bytes after ED that are instructions (R432). -/
def edDefinedBytes : List Nat := [
  0x40, 0x41, 0x42, 0x43, 0x44, 0x45, 0x46, 0x47, 0x48, 0x49, 0x4A, 0x4B, 0x4D,
  0x4F, 0x50, 0x51, 0x52, 0x53, 0x56, 0x57, 0x58, 0x59, 0x5A, 0x5B, 0x5E, 0x5F,
  0x60, 0x61, 0x62, 0x63, 0x67, 0x68, 0x69, 0x6A, 0x6B, 0x6F, 0x72, 0x73, 0x78,
  0x79, 0x7A, 0x7B, 0xA0, 0xA1, 0xA2, 0xA3, 0xA8, 0xA9, 0xAA, 0xAB, 0xB0, 0xB1,
  0xB2, 0xB3, 0xB8, 0xB9, 0xBA, 0xBB]

/-- The 39 second bytes after DD or FD, besides CB, that are instructions (R433). -/
def xyDefinedBytes : List Nat := [
  0x09, 0x19, 0x21, 0x22, 0x23, 0x29, 0x2A, 0x2B, 0x34, 0x35, 0x36, 0x39, 0x46,
  0x4E, 0x56, 0x5E, 0x66, 0x6E, 0x70, 0x71, 0x72, 0x73, 0x74, 0x75, 0x77, 0x7E,
  0x86, 0x8E, 0x96, 0x9E, 0xA6, 0xAE, 0xB6, 0xBE, 0xE1, 0xE3, 0xE5, 0xE9, 0xF9]

def edDefined (op : Byte) : Bool := edDefinedBytes.contains op.toNat

def xyDefined (op : Byte) : Bool := xyDefinedBytes.contains op.toNat

/-- The 31 fourth bytes after DD CB d or FD CB d that are instructions: `z = 110`, but for 36 (R434). -/
def xyCbDefined (op : Byte) : Bool := op.toNat % 8 == 6 && op.toNat != 0x36

/-- The byte CB after DD or FD selects the four-byte form, not a row of R433 (R400). -/
def xyIsCb (op : Byte) : Bool := op.toNat == 0xCB

def Instr.wellFormed : Instr → Bool
  | .ldRR _ _ | .ldRN _ _ | .ldRHl _ | .ldRIxD _ _ | .ldRIyD _ _ | .ldHlR _ | .ldIxDR _ _ | .ldIyDR _ _
  | .ldHlN _ | .ldIxDN _ _ | .ldIyDN _ _ | .ldABc | .ldADe | .ldANn _ | .ldBcA | .ldDeA | .ldNnA _ | .ldAI
  | .ldAR | .ldIA | .ldRA | .ldDdNn _ _ | .ldIxNn _ | .ldIyNn _ | .ldHlMem _ | .ldDdMem _ _ | .ldIxMem _
  | .ldIyMem _ | .ldMemHl _ | .ldMemDd _ _ | .ldMemIx _ | .ldMemIy _ | .ldSpHl | .ldSpIx | .ldSpIy
  | .pushQq _ | .pushIx | .pushIy | .popQq _ | .popIx | .popIy | .addAR _ | .addAN _ | .addAHl | .addAIxD _
  | .addAIyD _ | .adcAR _ | .adcAN _ | .adcAHl | .adcAIxD _ | .adcAIyD _ | .subR _ | .subN _ | .subHl
  | .subIxD _ | .subIyD _ | .sbcAR _ | .sbcAN _ | .sbcAHl | .sbcAIxD _ | .sbcAIyD _ | .andR _ | .andN _
  | .andHl | .andIxD _ | .andIyD _ | .orR _ | .orN _ | .orHl | .orIxD _ | .orIyD _ | .xorR _ | .xorN _
  | .xorHl | .xorIxD _ | .xorIyD _ | .cpR _ | .cpN _ | .cpHl | .cpIxD _ | .cpIyD _ | .incR _ | .incHl
  | .incIxD _ | .incIyD _ | .decR _ | .decHl | .decIxD _ | .decIyD _ | .addHlSs _ | .adcHlSs _ | .sbcHlSs _
  | .addIxPp _ | .addIyRr _ | .incSs _ | .incIx | .incIy | .decSs _ | .decIx | .decIy | .exDeHl | .exAfAf
  | .exx | .exSpHl | .exSpIx | .exSpIy | .ldi | .ldir | .ldd | .lddr | .cpi | .cpir | .cpd | .cpdr | .rlca
  | .rla | .rrca | .rra | .rlcR _ | .rlcHl | .rlcIxD _ | .rlcIyD _ | .rlR _ | .rlHl | .rlIxD _ | .rlIyD _
  | .rrcR _ | .rrcHl | .rrcIxD _ | .rrcIyD _ | .rrR _ | .rrHl | .rrIxD _ | .rrIyD _ | .slaR _ | .slaHl
  | .slaIxD _ | .slaIyD _ | .sraR _ | .sraHl | .sraIxD _ | .sraIyD _ | .srlR _ | .srlHl | .srlIxD _
  | .srlIyD _ | .rld | .rrd | .bitR _ _ | .bitHl _ | .bitIxD _ _ | .bitIyD _ _ | .setR _ _ | .setHl _
  | .setIxD _ _ | .setIyD _ _ | .resR _ _ | .resHl _ | .resIxD _ _ | .resIyD _ _ | .jpNn _ | .jpCcNn _ _
  | .jrE _ | .jrC _ | .jrNc _ | .jrZ _ | .jrNz _ | .jpHl | .jpIx | .jpIy | .djnz _ | .callNn _
  | .callCcNn _ _ | .ret | .retCc _ | .reti | .retn | .rst _ | .inAN _ | .inRC _ | .ini | .inir | .ind
  | .indr | .outNA _ | .outCR _ | .outi | .otir | .outd | .otdr | .daa | .cpl | .neg | .ccf | .scf | .nop
  | .halt | .di | .ei | .im0 | .im1 | .im2 | .unimplCb _ => true
  | .unimplEd op => !edDefined op
  | .unimplDd op => !xyDefined op && !xyIsCb op
  | .unimplFd op => !xyDefined op && !xyIsCb op
  | .unimplDdCb _ op => !xyCbDefined op
  | .unimplFdCb _ op => !xyCbDefined op

/-- The six rows of unimplemented encodings (R451 to R453). -/
def Instr.isUnimplemented : Instr → Bool
  | .ldRR _ _ | .ldRN _ _ | .ldRHl _ | .ldRIxD _ _ | .ldRIyD _ _ | .ldHlR _ | .ldIxDR _ _ | .ldIyDR _ _
  | .ldHlN _ | .ldIxDN _ _ | .ldIyDN _ _ | .ldABc | .ldADe | .ldANn _ | .ldBcA | .ldDeA | .ldNnA _ | .ldAI
  | .ldAR | .ldIA | .ldRA | .ldDdNn _ _ | .ldIxNn _ | .ldIyNn _ | .ldHlMem _ | .ldDdMem _ _ | .ldIxMem _
  | .ldIyMem _ | .ldMemHl _ | .ldMemDd _ _ | .ldMemIx _ | .ldMemIy _ | .ldSpHl | .ldSpIx | .ldSpIy
  | .pushQq _ | .pushIx | .pushIy | .popQq _ | .popIx | .popIy | .addAR _ | .addAN _ | .addAHl | .addAIxD _
  | .addAIyD _ | .adcAR _ | .adcAN _ | .adcAHl | .adcAIxD _ | .adcAIyD _ | .subR _ | .subN _ | .subHl
  | .subIxD _ | .subIyD _ | .sbcAR _ | .sbcAN _ | .sbcAHl | .sbcAIxD _ | .sbcAIyD _ | .andR _ | .andN _
  | .andHl | .andIxD _ | .andIyD _ | .orR _ | .orN _ | .orHl | .orIxD _ | .orIyD _ | .xorR _ | .xorN _
  | .xorHl | .xorIxD _ | .xorIyD _ | .cpR _ | .cpN _ | .cpHl | .cpIxD _ | .cpIyD _ | .incR _ | .incHl
  | .incIxD _ | .incIyD _ | .decR _ | .decHl | .decIxD _ | .decIyD _ | .addHlSs _ | .adcHlSs _ | .sbcHlSs _
  | .addIxPp _ | .addIyRr _ | .incSs _ | .incIx | .incIy | .decSs _ | .decIx | .decIy | .exDeHl | .exAfAf
  | .exx | .exSpHl | .exSpIx | .exSpIy | .ldi | .ldir | .ldd | .lddr | .cpi | .cpir | .cpd | .cpdr | .rlca
  | .rla | .rrca | .rra | .rlcR _ | .rlcHl | .rlcIxD _ | .rlcIyD _ | .rlR _ | .rlHl | .rlIxD _ | .rlIyD _
  | .rrcR _ | .rrcHl | .rrcIxD _ | .rrcIyD _ | .rrR _ | .rrHl | .rrIxD _ | .rrIyD _ | .slaR _ | .slaHl
  | .slaIxD _ | .slaIyD _ | .sraR _ | .sraHl | .sraIxD _ | .sraIyD _ | .srlR _ | .srlHl | .srlIxD _
  | .srlIyD _ | .rld | .rrd | .bitR _ _ | .bitHl _ | .bitIxD _ _ | .bitIyD _ _ | .setR _ _ | .setHl _
  | .setIxD _ _ | .setIyD _ _ | .resR _ _ | .resHl _ | .resIxD _ _ | .resIyD _ _ | .jpNn _ | .jpCcNn _ _
  | .jrE _ | .jrC _ | .jrNc _ | .jrZ _ | .jrNz _ | .jpHl | .jpIx | .jpIy | .djnz _ | .callNn _
  | .callCcNn _ _ | .ret | .retCc _ | .reti | .retn | .rst _ | .inAN _ | .inRC _ | .ini | .inir | .ind
  | .indr | .outNA _ | .outCR _ | .outi | .otir | .outd | .otdr | .daa | .cpl | .neg | .ccf | .scf | .nop
  | .halt | .di | .ei | .im0 | .im1 | .im2 => false
  | .unimplCb _ | .unimplEd _ | .unimplDd _ | .unimplFd _ | .unimplDdCb _ _ | .unimplFdCb _ _ => true

end Sys2Proof
end

