-- ==== Sys2Proof/Decode.lean ====
section
/-! DEFINITION. Decoding a byte sequence into an instruction and the bytes after it, and encoding an
instruction back. The decoder follows 30_encoding.md: the sub-fields of R401, the opcode maps R430 to R434
and the algorithm R440. It is total: every sequence of four bytes decodes (R454), and a shorter one is
either decoded or rejected as truncated. -/

namespace Sys2Proof

/-! ### Byte order of a 16-bit quantity (20_memory.md R300; 00_scope.md R108) -/

/-- `{hi, lo}` of R108. -/
def joinBytes (hi lo : Byte) : Word := hi ++ lo

/-- `v[15:8]`. -/
def hiByte (v : Word) : Byte := v.extractLsb' 8 8

/-- `v[7:0]`. -/
def loByte (v : Word) : Byte := v.extractLsb' 0 8

/-! ### Codes of the operand fields -/

/-- 3-bit register code (R407). -/
def Reg8.code : Reg8 → Nat
  | .b => 0 | .c => 1 | .d => 2 | .e => 3 | .h => 4 | .l => 5 | .a => 7

/-- 2-bit pair code of `dd` and `ss` (R408). -/
def PairDD.code : PairDD → Nat
  | .bc => 0 | .de => 1 | .hl => 2 | .sp => 3

/-- 2-bit pair code of `qq` (R408). -/
def PairQQ.code : PairQQ → Nat
  | .bc => 0 | .de => 1 | .hl => 2 | .af => 3

/-- 2-bit pair code of `pp` (R408). -/
def PairPP.code : PairPP → Nat
  | .bc => 0 | .de => 1 | .ix => 2 | .sp => 3

/-- 2-bit pair code of `rr` (R408). -/
def PairRR.code : PairRR → Nat
  | .bc => 0 | .de => 1 | .iy => 2 | .sp => 3

/-- 3-bit condition code (R409). -/
def Cond.code : Cond → Nat
  | .nz => 0 | .z => 1 | .nc => 2 | .c => 3 | .po => 4 | .pe => 5 | .p => 6 | .m => 7

/-- The register a 3-bit field names; 110 is the memory operand, not a register (R204, R407). -/
def reg8Of : Nat → Option Reg8
  | 0 => some .b | 1 => some .c | 2 => some .d | 3 => some .e
  | 4 => some .h | 5 => some .l | 7 => some .a | _ => none

def pairDDOf : Nat → PairDD
  | 0 => .bc | 1 => .de | 2 => .hl | _ => .sp

def pairQQOf : Nat → PairQQ
  | 0 => .bc | 1 => .de | 2 => .hl | _ => .af

def pairPPOf : Nat → PairPP
  | 0 => .bc | 1 => .de | 2 => .ix | _ => .sp

def pairRROf : Nat → PairRR
  | 0 => .bc | 1 => .de | 2 => .iy | _ => .sp

def condOf : Nat → Cond
  | 0 => .nz | 1 => .z | 2 => .nc | 3 => .c | 4 => .po | 5 => .pe | 6 => .p | _ => .m

/-! ### Sub-fields of an opcode byte (R401) -/

/-- `x = op[7:6]`. -/
def opX (op : Byte) : Nat := op.toNat / 64

/-- `y = op[5:3]`. -/
def opY (op : Byte) : Nat := op.toNat / 8 % 8

/-- `z = op[2:0]`. -/
def opZ (op : Byte) : Nat := op.toNat % 8

/-- A 3-bit field as a bit number or restart number (R410, R411). -/
def field3 (n : Nat) : Fin 8 := Fin.ofNat 8 n

/-! ### Operand bytes -/

/-- Why a byte sequence is not decoded. -/
inductive DecodeError where
  /-- The sequence ends before the instruction does. -/
  | truncated
deriving DecidableEq, Repr

/-- The instruction and the bytes after it, or the reason why there is none. -/
inductive Decoded where
  | instr (i : Instr) (rest : List Byte)
  | rejected (e : DecodeError)
deriving DecidableEq, Repr

/-- Fetch one operand byte: `n`, `d`, `e` or the next opcode byte. -/
def withByte (bs : List Byte) (k : Byte → List Byte → Decoded) : Decoded :=
  match bs with
  | n :: rest => k n rest
  | [] => .rejected .truncated

/-- Fetch `nn`, low byte first (R420). -/
def withWord (bs : List Byte) (k : Word → List Byte → Decoded) : Decoded :=
  match bs with
  | lo :: hi :: rest => k (joinBytes hi lo) rest
  | _ => .rejected .truncated

/-! ### The operation field of the ALU and of the rotates (R412, R413) -/

/-- ALU operation `y` on a register. -/
def aluR (y : Nat) (r : Reg8) : Instr :=
  match y with
  | 0 => .addAR r | 1 => .adcAR r | 2 => .subR r | 3 => .sbcAR r
  | 4 => .andR r | 5 => .xorR r | 6 => .orR r | _ => .cpR r

/-- ALU operation `y` on (HL). -/
def aluHl (y : Nat) : Instr :=
  match y with
  | 0 => .addAHl | 1 => .adcAHl | 2 => .subHl | 3 => .sbcAHl
  | 4 => .andHl | 5 => .xorHl | 6 => .orHl | _ => .cpHl

/-- ALU operation `y` on an immediate. -/
def aluN (y : Nat) (n : Byte) : Instr :=
  match y with
  | 0 => .addAN n | 1 => .adcAN n | 2 => .subN n | 3 => .sbcAN n
  | 4 => .andN n | 5 => .xorN n | 6 => .orN n | _ => .cpN n

/-- ALU operation `y` on (IX+d). -/
def aluIxD (y : Nat) (d : Byte) : Instr :=
  match y with
  | 0 => .addAIxD d | 1 => .adcAIxD d | 2 => .subIxD d | 3 => .sbcAIxD d
  | 4 => .andIxD d | 5 => .xorIxD d | 6 => .orIxD d | _ => .cpIxD d

/-- ALU operation `y` on (IY+d). -/
def aluIyD (y : Nat) (d : Byte) : Instr :=
  match y with
  | 0 => .addAIyD d | 1 => .adcAIyD d | 2 => .subIyD d | 3 => .sbcAIyD d
  | 4 => .andIyD d | 5 => .xorIyD d | 6 => .orIyD d | _ => .cpIyD d

/-- CB 00 yyy zzz on a register; 110 is the undocumented SLL (R413, R451). -/
def rotR (y : Nat) (r : Reg8) : Instr :=
  match y with
  | 0 => .rlcR r | 1 => .rrcR r | 2 => .rlR r | 3 => .rrR r
  | 4 => .slaR r | 5 => .sraR r | 6 => .unimplCb (field3 r.code) | _ => .srlR r

/-- CB 00 yyy 110 (R413, R451). -/
def rotHl (y : Nat) : Instr :=
  match y with
  | 0 => .rlcHl | 1 => .rrcHl | 2 => .rlHl | 3 => .rrHl
  | 4 => .slaHl | 5 => .sraHl | 6 => .unimplCb 6 | _ => .srlHl

/-- DD CB d 00 yyy 110, for `y` other than 110 (R434). -/
def rotIxD (y : Nat) (d : Byte) : Instr :=
  match y with
  | 0 => .rlcIxD d | 1 => .rrcIxD d | 2 => .rlIxD d | 3 => .rrIxD d
  | 4 => .slaIxD d | 5 => .sraIxD d | _ => .srlIxD d

/-- FD CB d 00 yyy 110, for `y` other than 110 (R434). -/
def rotIyD (y : Nat) (d : Byte) : Instr :=
  match y with
  | 0 => .rlcIyD d | 1 => .rrcIyD d | 2 => .rlIyD d | 3 => .rrIyD d
  | 4 => .slaIyD d | 5 => .sraIyD d | _ => .srlIyD d

/-! ### The CB table (R431) -/

def decodeCb (bs : List Byte) : Decoded :=
  withByte bs fun op rest =>
    let y := opY op
    match opX op, reg8Of (opZ op) with
    | 0, some r => .instr (rotR y r) rest
    | 0, none => .instr (rotHl y) rest
    | 1, some r => .instr (.bitR (field3 y) r) rest
    | 1, none => .instr (.bitHl (field3 y)) rest
    | 2, some r => .instr (.resR (field3 y) r) rest
    | 2, none => .instr (.resHl (field3 y)) rest
    | _, some r => .instr (.setR (field3 y) r) rest
    | _, none => .instr (.setHl (field3 y)) rest

/-! ### The ED table (R432, R451) -/

/-- ED 01 yyy zzz, for a second byte that R432 lists. -/
def decodeEd1 (op : Byte) (rest : List Byte) : Decoded :=
  let y := opY op
  match opZ op, reg8Of y with
  | 0, some r => .instr (.inRC r) rest
  | 1, some r => .instr (.outCR r) rest
  | 2, _ => .instr (if y % 2 = 0 then .sbcHlSs (pairDDOf (y / 2)) else .adcHlSs (pairDDOf (y / 2))) rest
  | 3, _ => withWord rest fun nn rest' =>
      .instr (if y % 2 = 0 then .ldMemDd nn (pairDDOf (y / 2)) else .ldDdMem (pairDDOf (y / 2)) nn) rest'
  | 4, _ => .instr .neg rest
  | 5, _ => .instr (if y = 0 then .retn else .reti) rest
  | 6, _ => .instr (match y with | 0 => .im0 | 2 => .im1 | _ => .im2) rest
  | 7, _ => .instr (match y with
      | 0 => .ldIA | 1 => .ldRA | 2 => .ldAI | 3 => .ldAR | 4 => .rrd | _ => .rld) rest
  | _, _ => .instr (.unimplEd op) rest

/-- ED 10 yyy zzz: the block instructions, for a second byte that R432 lists. -/
def edBlock (y z : Nat) : Instr :=
  match z, y with
  | 0, 4 => .ldi | 0, 5 => .ldd | 0, 6 => .ldir | 0, _ => .lddr
  | 1, 4 => .cpi | 1, 5 => .cpd | 1, 6 => .cpir | 1, _ => .cpdr
  | 2, 4 => .ini | 2, 5 => .ind | 2, 6 => .inir | 2, _ => .indr
  | _, 4 => .outi | _, 5 => .outd | _, 6 => .otir | _, _ => .otdr

def decodeEd (bs : List Byte) : Decoded :=
  withByte bs fun op rest =>
    if edDefined op then
      if opX op = 1 then decodeEd1 op rest else .instr (edBlock (opY op) (opZ op)) rest
    else .instr (.unimplEd op) rest

/-! ### The DD and FD tables (R433, R434, R452, R453) -/

/-- The index register a DD (IX) or FD (IY) byte selects (R402). -/
inductive IndexReg where
  | ix | iy
deriving DecidableEq, Repr

/-- The IX row or the IY row next to it. -/
def IndexReg.pick (xy : IndexReg) (ix iy : Instr) : Instr :=
  match xy with
  | .ix => ix
  | .iy => iy

/-- DD CB d op and FD CB d op: the displacement comes before the opcode byte (R406). -/
def decodeXYCb (xy : IndexReg) (bs : List Byte) : Decoded :=
  withByte bs fun d bs' =>
    withByte bs' fun op rest =>
      let y := opY op
      if xyCbDefined op then
        match opX op with
        | 0 => .instr (xy.pick (rotIxD y d) (rotIyD y d)) rest
        | 1 => .instr (xy.pick (.bitIxD (field3 y) d) (.bitIyD (field3 y) d)) rest
        | 2 => .instr (xy.pick (.resIxD (field3 y) d) (.resIyD (field3 y) d)) rest
        | _ => .instr (xy.pick (.setIxD (field3 y) d) (.setIyD (field3 y) d)) rest
      else .instr (xy.pick (.unimplDdCb d op) (.unimplFdCb d op)) rest

/-- DD/FD 00 yyy zzz, for a second byte that R433 lists. -/
def decodeXY0 (xy : IndexReg) (op : Byte) (rest : List Byte) : Decoded :=
  let y := opY op
  match opZ op with
  | 1 =>
    if y % 2 = 0 then withWord rest fun nn rest' => .instr (xy.pick (.ldIxNn nn) (.ldIyNn nn)) rest'
    else .instr (xy.pick (.addIxPp (pairPPOf (y / 2))) (.addIyRr (pairRROf (y / 2)))) rest
  | 2 => withWord rest fun nn rest' =>
      .instr (if y = 4 then xy.pick (.ldMemIx nn) (.ldMemIy nn) else xy.pick (.ldIxMem nn) (.ldIyMem nn)) rest'
  | 3 => .instr (if y = 4 then xy.pick .incIx .incIy else xy.pick .decIx .decIy) rest
  | 4 => withByte rest fun d rest' => .instr (xy.pick (.incIxD d) (.incIyD d)) rest'
  | 5 => withByte rest fun d rest' => .instr (xy.pick (.decIxD d) (.decIyD d)) rest'
  | _ => withByte rest fun d bs => withByte bs fun n rest' =>
      .instr (xy.pick (.ldIxDN d n) (.ldIyDN d n)) rest'

/-- DD/FD 01 yyy zzz: loads between a register and (XY+d); the field 110 on one side is the memory
operand, and the register field still means the plain registers (R407). -/
def decodeXY1 (xy : IndexReg) (op : Byte) (rest : List Byte) : Decoded :=
  match reg8Of (opY op), reg8Of (opZ op) with
  | some r, none => withByte rest fun d rest' => .instr (xy.pick (.ldRIxD r d) (.ldRIyD r d)) rest'
  | none, some r => withByte rest fun d rest' => .instr (xy.pick (.ldIxDR d r) (.ldIyDR d r)) rest'
  | _, _ => .instr (xy.pick (.unimplDd op) (.unimplFd op)) rest

/-- DD/FD 11 yyy zzz, for a second byte that R433 lists. -/
def xyControl (xy : IndexReg) (op : Byte) : Instr :=
  match op.toNat with
  | 0xE1 => xy.pick .popIx .popIy
  | 0xE3 => xy.pick .exSpIx .exSpIy
  | 0xE5 => xy.pick .pushIx .pushIy
  | 0xE9 => xy.pick .jpIx .jpIy
  | _ => xy.pick .ldSpIx .ldSpIy

def decodeXY (xy : IndexReg) (bs : List Byte) : Decoded :=
  withByte bs fun op rest =>
    if xyIsCb op then decodeXYCb xy rest
    else if xyDefined op then
      match opX op with
      | 0 => decodeXY0 xy op rest
      | 1 => decodeXY1 xy op rest
      | 2 => withByte rest fun d rest' => .instr (xy.pick (aluIxD (opY op) d) (aluIyD (opY op) d)) rest'
      | _ => .instr (xyControl xy op) rest
    else .instr (xy.pick (.unimplDd op) (.unimplFd op)) rest

/-! ### The main table (R430) -/

/-- 00 yyy zzz. -/
def decodeMain0 (op : Byte) (rest : List Byte) : Decoded :=
  let y := opY op
  match opZ op with
  | 0 => match y with
    | 0 => .instr .nop rest
    | 1 => .instr .exAfAf rest
    | 2 => withByte rest fun e rest' => .instr (.djnz e) rest'
    | 3 => withByte rest fun e rest' => .instr (.jrE e) rest'
    | 4 => withByte rest fun e rest' => .instr (.jrNz e) rest'
    | 5 => withByte rest fun e rest' => .instr (.jrZ e) rest'
    | 6 => withByte rest fun e rest' => .instr (.jrNc e) rest'
    | _ => withByte rest fun e rest' => .instr (.jrC e) rest'
  | 1 =>
    if y % 2 = 0 then withWord rest fun nn rest' => .instr (.ldDdNn (pairDDOf (y / 2)) nn) rest'
    else .instr (.addHlSs (pairDDOf (y / 2))) rest
  | 2 => match y with
    | 0 => .instr .ldBcA rest
    | 1 => .instr .ldABc rest
    | 2 => .instr .ldDeA rest
    | 3 => .instr .ldADe rest
    | 4 => withWord rest fun nn rest' => .instr (.ldMemHl nn) rest'
    | 5 => withWord rest fun nn rest' => .instr (.ldHlMem nn) rest'
    | 6 => withWord rest fun nn rest' => .instr (.ldNnA nn) rest'
    | _ => withWord rest fun nn rest' => .instr (.ldANn nn) rest'
  | 3 => .instr (if y % 2 = 0 then .incSs (pairDDOf (y / 2)) else .decSs (pairDDOf (y / 2))) rest
  | 4 => match reg8Of y with
    | some r => .instr (.incR r) rest
    | none => .instr .incHl rest
  | 5 => match reg8Of y with
    | some r => .instr (.decR r) rest
    | none => .instr .decHl rest
  | 6 => withByte rest fun n rest' => match reg8Of y with
    | some r => .instr (.ldRN r n) rest'
    | none => .instr (.ldHlN n) rest'
  | _ => .instr (match y with
    | 0 => .rlca | 1 => .rrca | 2 => .rla | 3 => .rra | 4 => .daa | 5 => .cpl | 6 => .scf | _ => .ccf) rest

/-- 01 yyy zzz: LD r,r' with its (HL) row and column, and HALT in their common slot. -/
def main1 (op : Byte) : Instr :=
  match reg8Of (opY op), reg8Of (opZ op) with
  | some r, some r' => .ldRR r r'
  | some r, none => .ldRHl r
  | none, some r => .ldHlR r
  | none, none => .halt

/-- 10 yyy zzz: the ALU operations on a register or (HL). -/
def main2 (op : Byte) : Instr :=
  match reg8Of (opZ op) with
  | some r => aluR (opY op) r
  | none => aluHl (opY op)

/-- 11 yyy zzz, with the four prefix slots CB, DD, ED, FD in their places. -/
def decodeMain3 (op : Byte) (rest : List Byte) : Decoded :=
  let y := opY op
  match opZ op with
  | 0 => .instr (.retCc (condOf y)) rest
  | 1 => match y with
    | 1 => .instr .ret rest
    | 3 => .instr .exx rest
    | 5 => .instr .jpHl rest
    | 7 => .instr .ldSpHl rest
    | _ => .instr (.popQq (pairQQOf (y / 2))) rest
  | 2 => withWord rest fun nn rest' => .instr (.jpCcNn (condOf y) nn) rest'
  | 3 => match y with
    | 0 => withWord rest fun nn rest' => .instr (.jpNn nn) rest'
    | 1 => decodeCb rest
    | 2 => withByte rest fun n rest' => .instr (.outNA n) rest'
    | 3 => withByte rest fun n rest' => .instr (.inAN n) rest'
    | 4 => .instr .exSpHl rest
    | 5 => .instr .exDeHl rest
    | 6 => .instr .di rest
    | _ => .instr .ei rest
  | 4 => withWord rest fun nn rest' => .instr (.callCcNn (condOf y) nn) rest'
  | 5 => match y with
    | 1 => withWord rest fun nn rest' => .instr (.callNn nn) rest'
    | 3 => decodeXY .ix rest
    | 5 => decodeEd rest
    | 7 => decodeXY .iy rest
    | _ => .instr (.pushQq (pairQQOf (y / 2))) rest
  | 6 => withByte rest fun n rest' => .instr (aluN y n) rest'
  | _ => .instr (.rst (field3 y)) rest

/-- Decode the instruction at the head of a byte sequence (R440). -/
def decode (bs : List Byte) : Decoded :=
  withByte bs fun op rest =>
    match opX op with
    | 0 => decodeMain0 op rest
    | 1 => .instr (main1 op) rest
    | 2 => .instr (main2 op) rest
    | _ => decodeMain3 op rest

/-! ### The encoder: the bytes of an instruction, in fetch order (R402) -/

/-- An opcode byte from its pattern and its fields. -/
def opByte (n : Nat) : Byte := BitVec.ofNat 8 n

def encode : Instr → List Byte
  | .ldRR r r' => [opByte (0x40 + 8 * r.code + r'.code)]
  | .ldRN r n => [opByte (0x06 + 8 * r.code), n]
  | .ldRHl r => [opByte (0x46 + 8 * r.code)]
  | .ldRIxD r d => [0xDD, opByte (0x46 + 8 * r.code), d]
  | .ldRIyD r d => [0xFD, opByte (0x46 + 8 * r.code), d]
  | .ldHlR r => [opByte (0x70 + r.code)]
  | .ldIxDR d r => [0xDD, opByte (0x70 + r.code), d]
  | .ldIyDR d r => [0xFD, opByte (0x70 + r.code), d]
  | .ldHlN n => [0x36, n]
  | .ldIxDN d n => [0xDD, 0x36, d, n]
  | .ldIyDN d n => [0xFD, 0x36, d, n]
  | .ldABc => [0x0A]
  | .ldADe => [0x1A]
  | .ldANn nn => [0x3A, loByte nn, hiByte nn]
  | .ldBcA => [0x02]
  | .ldDeA => [0x12]
  | .ldNnA nn => [0x32, loByte nn, hiByte nn]
  | .ldAI => [0xED, 0x57]
  | .ldAR => [0xED, 0x5F]
  | .ldIA => [0xED, 0x47]
  | .ldRA => [0xED, 0x4F]
  | .ldDdNn dd nn => [opByte (0x01 + 16 * dd.code), loByte nn, hiByte nn]
  | .ldIxNn nn => [0xDD, 0x21, loByte nn, hiByte nn]
  | .ldIyNn nn => [0xFD, 0x21, loByte nn, hiByte nn]
  | .ldHlMem nn => [0x2A, loByte nn, hiByte nn]
  | .ldDdMem dd nn => [0xED, opByte (0x4B + 16 * dd.code), loByte nn, hiByte nn]
  | .ldIxMem nn => [0xDD, 0x2A, loByte nn, hiByte nn]
  | .ldIyMem nn => [0xFD, 0x2A, loByte nn, hiByte nn]
  | .ldMemHl nn => [0x22, loByte nn, hiByte nn]
  | .ldMemDd nn dd => [0xED, opByte (0x43 + 16 * dd.code), loByte nn, hiByte nn]
  | .ldMemIx nn => [0xDD, 0x22, loByte nn, hiByte nn]
  | .ldMemIy nn => [0xFD, 0x22, loByte nn, hiByte nn]
  | .ldSpHl => [0xF9]
  | .ldSpIx => [0xDD, 0xF9]
  | .ldSpIy => [0xFD, 0xF9]
  | .pushQq qq => [opByte (0xC5 + 16 * qq.code)]
  | .pushIx => [0xDD, 0xE5]
  | .pushIy => [0xFD, 0xE5]
  | .popQq qq => [opByte (0xC1 + 16 * qq.code)]
  | .popIx => [0xDD, 0xE1]
  | .popIy => [0xFD, 0xE1]
  | .addAR r => [opByte (0x80 + r.code)]
  | .addAN n => [0xC6, n]
  | .addAHl => [0x86]
  | .addAIxD d => [0xDD, 0x86, d]
  | .addAIyD d => [0xFD, 0x86, d]
  | .adcAR r => [opByte (0x88 + r.code)]
  | .adcAN n => [0xCE, n]
  | .adcAHl => [0x8E]
  | .adcAIxD d => [0xDD, 0x8E, d]
  | .adcAIyD d => [0xFD, 0x8E, d]
  | .subR r => [opByte (0x90 + r.code)]
  | .subN n => [0xD6, n]
  | .subHl => [0x96]
  | .subIxD d => [0xDD, 0x96, d]
  | .subIyD d => [0xFD, 0x96, d]
  | .sbcAR r => [opByte (0x98 + r.code)]
  | .sbcAN n => [0xDE, n]
  | .sbcAHl => [0x9E]
  | .sbcAIxD d => [0xDD, 0x9E, d]
  | .sbcAIyD d => [0xFD, 0x9E, d]
  | .andR r => [opByte (0xA0 + r.code)]
  | .andN n => [0xE6, n]
  | .andHl => [0xA6]
  | .andIxD d => [0xDD, 0xA6, d]
  | .andIyD d => [0xFD, 0xA6, d]
  | .orR r => [opByte (0xB0 + r.code)]
  | .orN n => [0xF6, n]
  | .orHl => [0xB6]
  | .orIxD d => [0xDD, 0xB6, d]
  | .orIyD d => [0xFD, 0xB6, d]
  | .xorR r => [opByte (0xA8 + r.code)]
  | .xorN n => [0xEE, n]
  | .xorHl => [0xAE]
  | .xorIxD d => [0xDD, 0xAE, d]
  | .xorIyD d => [0xFD, 0xAE, d]
  | .cpR r => [opByte (0xB8 + r.code)]
  | .cpN n => [0xFE, n]
  | .cpHl => [0xBE]
  | .cpIxD d => [0xDD, 0xBE, d]
  | .cpIyD d => [0xFD, 0xBE, d]
  | .incR r => [opByte (0x04 + 8 * r.code)]
  | .incHl => [0x34]
  | .incIxD d => [0xDD, 0x34, d]
  | .incIyD d => [0xFD, 0x34, d]
  | .decR r => [opByte (0x05 + 8 * r.code)]
  | .decHl => [0x35]
  | .decIxD d => [0xDD, 0x35, d]
  | .decIyD d => [0xFD, 0x35, d]
  | .addHlSs ss => [opByte (0x09 + 16 * ss.code)]
  | .adcHlSs ss => [0xED, opByte (0x4A + 16 * ss.code)]
  | .sbcHlSs ss => [0xED, opByte (0x42 + 16 * ss.code)]
  | .addIxPp pp => [0xDD, opByte (0x09 + 16 * pp.code)]
  | .addIyRr rr => [0xFD, opByte (0x09 + 16 * rr.code)]
  | .incSs ss => [opByte (0x03 + 16 * ss.code)]
  | .incIx => [0xDD, 0x23]
  | .incIy => [0xFD, 0x23]
  | .decSs ss => [opByte (0x0B + 16 * ss.code)]
  | .decIx => [0xDD, 0x2B]
  | .decIy => [0xFD, 0x2B]
  | .exDeHl => [0xEB]
  | .exAfAf => [0x08]
  | .exx => [0xD9]
  | .exSpHl => [0xE3]
  | .exSpIx => [0xDD, 0xE3]
  | .exSpIy => [0xFD, 0xE3]
  | .ldi => [0xED, 0xA0]
  | .ldir => [0xED, 0xB0]
  | .ldd => [0xED, 0xA8]
  | .lddr => [0xED, 0xB8]
  | .cpi => [0xED, 0xA1]
  | .cpir => [0xED, 0xB1]
  | .cpd => [0xED, 0xA9]
  | .cpdr => [0xED, 0xB9]
  | .rlca => [0x07]
  | .rla => [0x17]
  | .rrca => [0x0F]
  | .rra => [0x1F]
  | .rlcR r => [0xCB, opByte (0x00 + r.code)]
  | .rlcHl => [0xCB, 0x06]
  | .rlcIxD d => [0xDD, 0xCB, d, 0x06]
  | .rlcIyD d => [0xFD, 0xCB, d, 0x06]
  | .rlR r => [0xCB, opByte (0x10 + r.code)]
  | .rlHl => [0xCB, 0x16]
  | .rlIxD d => [0xDD, 0xCB, d, 0x16]
  | .rlIyD d => [0xFD, 0xCB, d, 0x16]
  | .rrcR r => [0xCB, opByte (0x08 + r.code)]
  | .rrcHl => [0xCB, 0x0E]
  | .rrcIxD d => [0xDD, 0xCB, d, 0x0E]
  | .rrcIyD d => [0xFD, 0xCB, d, 0x0E]
  | .rrR r => [0xCB, opByte (0x18 + r.code)]
  | .rrHl => [0xCB, 0x1E]
  | .rrIxD d => [0xDD, 0xCB, d, 0x1E]
  | .rrIyD d => [0xFD, 0xCB, d, 0x1E]
  | .slaR r => [0xCB, opByte (0x20 + r.code)]
  | .slaHl => [0xCB, 0x26]
  | .slaIxD d => [0xDD, 0xCB, d, 0x26]
  | .slaIyD d => [0xFD, 0xCB, d, 0x26]
  | .sraR r => [0xCB, opByte (0x28 + r.code)]
  | .sraHl => [0xCB, 0x2E]
  | .sraIxD d => [0xDD, 0xCB, d, 0x2E]
  | .sraIyD d => [0xFD, 0xCB, d, 0x2E]
  | .srlR r => [0xCB, opByte (0x38 + r.code)]
  | .srlHl => [0xCB, 0x3E]
  | .srlIxD d => [0xDD, 0xCB, d, 0x3E]
  | .srlIyD d => [0xFD, 0xCB, d, 0x3E]
  | .rld => [0xED, 0x6F]
  | .rrd => [0xED, 0x67]
  | .bitR b r => [0xCB, opByte (0x40 + 8 * b.val + r.code)]
  | .bitHl b => [0xCB, opByte (0x46 + 8 * b.val)]
  | .bitIxD b d => [0xDD, 0xCB, d, opByte (0x46 + 8 * b.val)]
  | .bitIyD b d => [0xFD, 0xCB, d, opByte (0x46 + 8 * b.val)]
  | .setR b r => [0xCB, opByte (0xC0 + 8 * b.val + r.code)]
  | .setHl b => [0xCB, opByte (0xC6 + 8 * b.val)]
  | .setIxD b d => [0xDD, 0xCB, d, opByte (0xC6 + 8 * b.val)]
  | .setIyD b d => [0xFD, 0xCB, d, opByte (0xC6 + 8 * b.val)]
  | .resR b r => [0xCB, opByte (0x80 + 8 * b.val + r.code)]
  | .resHl b => [0xCB, opByte (0x86 + 8 * b.val)]
  | .resIxD b d => [0xDD, 0xCB, d, opByte (0x86 + 8 * b.val)]
  | .resIyD b d => [0xFD, 0xCB, d, opByte (0x86 + 8 * b.val)]
  | .jpNn nn => [0xC3, loByte nn, hiByte nn]
  | .jpCcNn cc nn => [opByte (0xC2 + 8 * cc.code), loByte nn, hiByte nn]
  | .jrE e => [0x18, e]
  | .jrC e => [0x38, e]
  | .jrNc e => [0x30, e]
  | .jrZ e => [0x28, e]
  | .jrNz e => [0x20, e]
  | .jpHl => [0xE9]
  | .jpIx => [0xDD, 0xE9]
  | .jpIy => [0xFD, 0xE9]
  | .djnz e => [0x10, e]
  | .callNn nn => [0xCD, loByte nn, hiByte nn]
  | .callCcNn cc nn => [opByte (0xC4 + 8 * cc.code), loByte nn, hiByte nn]
  | .ret => [0xC9]
  | .retCc cc => [opByte (0xC0 + 8 * cc.code)]
  | .reti => [0xED, 0x4D]
  | .retn => [0xED, 0x45]
  | .rst t => [opByte (0xC7 + 8 * t.val)]
  | .inAN n => [0xDB, n]
  | .inRC r => [0xED, opByte (0x40 + 8 * r.code)]
  | .ini => [0xED, 0xA2]
  | .inir => [0xED, 0xB2]
  | .ind => [0xED, 0xAA]
  | .indr => [0xED, 0xBA]
  | .outNA n => [0xD3, n]
  | .outCR r => [0xED, opByte (0x41 + 8 * r.code)]
  | .outi => [0xED, 0xA3]
  | .otir => [0xED, 0xB3]
  | .outd => [0xED, 0xAB]
  | .otdr => [0xED, 0xBB]
  | .daa => [0x27]
  | .cpl => [0x2F]
  | .neg => [0xED, 0x44]
  | .ccf => [0x3F]
  | .scf => [0x37]
  | .nop => [0x00]
  | .halt => [0x76]
  | .di => [0xF3]
  | .ei => [0xFB]
  | .im0 => [0xED, 0x46]
  | .im1 => [0xED, 0x56]
  | .im2 => [0xED, 0x5E]
  | .unimplCb z => [0xCB, opByte (0x30 + z.val)]
  | .unimplEd op => [0xED, op]
  | .unimplDd op => [0xDD, op]
  | .unimplFd op => [0xFD, op]
  | .unimplDdCb d op => [0xDD, 0xCB, d, op]
  | .unimplFdCb d op => [0xFD, 0xCB, d, op]

/-! ### The opcode table's numbering of an instruction's bits -/

/-- The low `k` bytes of `w`, the most significant one first: the way spec/opcode_table.json numbers an
instruction (30_encoding.md: "taken in fetch order, first byte most significant"). -/
def bytesFirstHigh : Nat → Nat → List Byte
  | 0, _ => []
  | k + 1, w => BitVec.ofNat 8 (w / 256 ^ k) :: bytesFirstHigh k w

/-- The low `k` bytes of `w`, the least significant one first. -/
def bytesFirstLow : Nat → Nat → List Byte
  | 0, _ => []
  | k + 1, w => BitVec.ofNat 8 w :: bytesFirstLow k (w / 256)

/-- Whether a byte sequence is exactly one instruction. -/
def isOneInstr (bs : List Byte) : Bool :=
  match decode bs with
  | .instr _ rest => rest.isEmpty
  | .rejected _ => false

/-- The four bytes of the instruction whose `nbits` bits are `w`, followed by zeros. The table's numbering
has the first byte most significant; a word that is no whole instruction in that numbering, and is one
with the first byte least significant, is read that way. Log entry 10. -/
def tableBytes (nbits w : Nat) : List Byte :=
  let k := (nbits + 7) / 8
  let high := bytesFirstHigh k w
  let low := bytesFirstLow k w
  (if !isOneInstr high && isOneInstr low then low else high) ++ List.replicate (4 - k) 0

/-- The instruction the decoder reads from an instruction whose bits are `w`, numbered as
spec/opcode_table.json numbers them. -/
def decodeTableWord (nbits w : Nat) : Option Instr :=
  match decode (tableBytes nbits w) with
  | .instr i _ => some i
  | .rejected _ => none

end Sys2Proof
end

