-- ==== Sys2Proof/Config.lean ====
section
/-! DEFINITION. What is fixed for the machine, and the free values of the manual.

The parameters of 00_scope.md R105 are constants of this hardware, carried where they act:
`INDEX_PREFIXES` and `UNDOC_XY_FORMS` in `decodeXY`, `decodeXYCb` and the tables of WellFormed.lean;
`UNIMPL_CONSUME` in the decoder's remainder; `F53_POLICY` in Machine/Flags.lean; `R_POLICY` in that
nothing but `execLdRA` writes R; `HALT_POLICY` in `step` and `execHalt`; `PORT_ADDR_WIDTH` in
`State.readPort` and `State.writePort`; `INTERRUPT_INPUTS` in that `step` has no input. -/

namespace Sys2Proof.Config

/-- Number of cells of the memory array and of the port array (R104, R230, R232). -/
def cells : Nat := 65536

/-- The reset entry point (R260, R1601). -/
def resetPC : Word := 0x0000

/-- FREE VALUE: the bits the Z80 manual leaves unknown, parameter `unspec_bits` (92_eei_decisions.md,
"Open parameters"; 93_implementation_defined.md U1, U2). The k-th bit drawn is `unspecBit k`; it has
no body, so nothing can be proved about it. Log entry 3. -/
opaque unspecBit : Nat → Bool

end Sys2Proof.Config
end

