-- ==== Sys2Proof/Machine/State.lean ====
section
/-! DEFINITION. The state of the core as plain data: every piece of state that 10_state.md and
60_exceptions.md name, and one counter of the model's own (`draws`). -/

namespace Sys2Proof.Machine

/-- One register set: the eight general 8-bit registers (R200). The machine has two, the main set and the
shadow set (R202). The pairs BC, DE, HL, AF are views over these bytes (R201). -/
structure RegSet where
  a : Byte
  /-- The flag byte: S Z F5 H F3 PV N C, bits 7 to 0 (R210). -/
  f : Byte
  b : Byte
  c : Byte
  d : Byte
  e : Byte
  h : Byte
  l : Byte
deriving DecidableEq, Repr

/-- The stored interrupt mode, 0, 1 or 2 (R223). -/
inductive IntMode where
  | im0 | im1 | im2
deriving DecidableEq, Repr

/-- What the diagnostic output DIAG carries when it is asserted: PC0 and the bytes consumed (R450,
R1501). -/
structure DiagEvent where
  pc0 : Word
  bytes : List Byte
deriving DecidableEq, Repr

/-- A space of 65,536 cells, held sparsely: the listed cells, addresses rising, no cell listed that holds
what an unlisted one reads as (Machine/Memory.lean). -/
abbrev Memory := List Host.Cell

structure State where
  /-- A, F, B, C, D, E, H, L (R200). -/
  regs : RegSet
  /-- A', F', B', C', D', E', H', L' (R202). -/
  shadow : RegSet
  /-- Index register IX (R207). -/
  ix : Word
  /-- Index register IY (R207). -/
  iy : Word
  /-- Stack pointer (R208). -/
  sp : Word
  /-- Program counter (R209). -/
  pc : Word
  /-- Interrupt vector register (R220). -/
  i : Byte
  /-- Refresh register; it does not count (R221). -/
  r : Byte
  /-- Interrupt flip-flop 1 (R222). -/
  iff1 : Bool
  /-- Interrupt flip-flop 2 (R222). -/
  iff2 : Bool
  /-- Interrupt mode, storage only (R223). -/
  im : IntMode
  /-- The halt state (R224). -/
  halt : Bool
  /-- Mem (R230). -/
  mem : Memory
  /-- Port, a space of its own (R232). -/
  port : Memory
  /-- T-states of the latest step, an output that no instruction reads (R225). Log entry 4. -/
  tCycles : Nat
  /-- `unimpl_seen`: sticky, set by every Unimplemented event, cleared only by reset (R1502). -/
  unimplSeen : Bool
  /-- DIAG as the latest step left it: `none` when it is not asserted (R1501). Log entry 5. -/
  diag : Option DiagEvent
  /-- THE MODEL'S OWN: how many unspecified flag bits have been drawn; the next one is
  `Config.unspecBit draws`. Log entry 3. -/
  draws : Nat
deriving DecidableEq, Repr

/-- The core raises no exception (R1500), so no instruction and no access ends in a fault. -/
inductive Fault where
  /-- Raised by `step`, and by nothing else, if the decoder rejects the four bytes at PC. SAFE: it never
  happens, since every four bytes decode (R454); it makes `step` total in Lean's eyes. Log entry 8. -/
  | undecodable
deriving DecidableEq, Repr

inductive Refusal where
  /-- An instruction without a meaning yet, by its mnemonic; raised by an arm of `exec`. SAFE. No arm
  raises it: every instruction has its meaning. -/
  | notModelled (mnemonic : String)
deriving DecidableEq, Repr

/-- The parameter `reset_draw` (R106, R260, R1602): the values that reset leaves unspecified. -/
structure ResetDraw where
  regs : RegSet
  shadow : RegSet
  ix : Word
  iy : Word
  sp : Word
  mem : Memory
  port : Memory
deriving DecidableEq, Repr

/-- The state after reset, for any draw of the unspecified values (R260, R1600). DESIGN CHOICE (log entry 3):
the free flag bits are numbered from 0 here, where the machine starts; a reset in the middle of a run does not
renumber them (`State.hostReset`). -/
def State.resetWith (draw : ResetDraw) : State where
  regs := draw.regs
  shadow := draw.shadow
  ix := draw.ix
  iy := draw.iy
  sp := draw.sp
  pc := Config.resetPC
  i := 0x00
  r := 0x00
  iff1 := false
  iff2 := false
  im := .im0
  halt := false
  mem := draw.mem
  port := draw.port
  tCycles := 0
  unimplSeen := false
  diag := none
  draws := 0

def RegSet.zero : RegSet where
  a := 0
  f := 0
  b := 0
  c := 0
  d := 0
  e := 0
  h := 0
  l := 0

/-- DESIGN CHOICE (unsafe; log entries 1 and 2): the draw of `State.reset`, every register zero and no
cell of Mem or Port listed. -/
def ResetDraw.zero : ResetDraw where
  regs := RegSet.zero
  shadow := RegSet.zero
  ix := 0
  iy := 0
  sp := 0
  mem := []
  port := []

/-- The machine right after reset. -/
def State.reset : State := State.resetWith ResetDraw.zero

end Sys2Proof.Machine
end

