-- ==== Sys2Proof/Machine/Flags.lean ====
section
/-! DEFINITION. The flag register as eight named bits, and the ALU and flag functions of
40_alu_flag_tables.md. The tables of R500 are constants; they are defined here as functions, as R500
allows. -/

namespace Sys2Proof.Machine

/-- The eight bits of F by name (R210). -/
structure Flags where
  s : Bool
  z : Bool
  f5 : Bool
  h : Bool
  f3 : Bool
  pv : Bool
  n : Bool
  c : Bool
deriving DecidableEq, Repr

/-- The byte with S in bit 7 down to C in bit 0 (R210). -/
def Flags.toByte (fl : Flags) : Byte :=
  BitVec.ofBool fl.s ++ BitVec.ofBool fl.z ++ BitVec.ofBool fl.f5 ++ BitVec.ofBool fl.h ++
    BitVec.ofBool fl.f3 ++ BitVec.ofBool fl.pv ++ BitVec.ofBool fl.n ++ BitVec.ofBool fl.c

def Flags.ofByte (v : Byte) : Flags where
  s := v.getLsbD 7
  z := v.getLsbD 6
  f5 := v.getLsbD 5
  h := v.getLsbD 4
  f3 := v.getLsbD 3
  pv := v.getLsbD 2
  n := v.getLsbD 1
  c := v.getLsbD 0

/-- An 8-bit result with its flags. -/
structure AluResult where
  res : Byte
  flags : Flags
deriving DecidableEq, Repr

/-- `sz53` (R502): S, Z, F5 and F3 from a result, the other bits 0. -/
def sz53 (res : Byte) : Flags where
  s := res.getLsbD 7
  z := res == 0
  f5 := res.getLsbD 5
  h := false
  f3 := res.getLsbD 3
  pv := false
  n := false
  c := false

/-- `parity` (R503): the number of 1 bits is even. -/
def parity (v : Byte) : Bool :=
  ([0, 1, 2, 3, 4, 5, 6, 7].countP fun k => v.getLsbD k) % 2 == 0

/-! ### Eight-bit add, subtract and logic -/

/-- `add8` (R510). -/
def add8 (a b : Byte) (cin : Bool) : AluResult :=
  let sum := a.toNat + b.toNat + cin.toNat
  let res := BitVec.ofNat 8 sum
  { res := res
    flags := { sz53 res with
      h := (a ^^^ b ^^^ res).getLsbD 4
      pv := a.getLsbD 7 == b.getLsbD 7 && res.getLsbD 7 != a.getLsbD 7
      n := false
      c := decide (255 < sum) } }

/-- `sub8` (R511). -/
def sub8 (a b : Byte) (cin : Bool) : AluResult :=
  let diff : Int := (a.toNat : Int) - b.toNat - cin.toNat
  let res := BitVec.ofInt 8 diff
  { res := res
    flags := { sz53 res with
      h := (a ^^^ b ^^^ res).getLsbD 4
      pv := a.getLsbD 7 != b.getLsbD 7 && res.getLsbD 7 != a.getLsbD 7
      n := true
      c := decide (diff < 0) } }

/-- `and8` (R512). -/
def and8 (a b : Byte) : AluResult :=
  let res := a &&& b
  { res := res, flags := { sz53 res with h := true, pv := parity res, n := false, c := false } }

/-- `or8` (R513). -/
def or8 (a b : Byte) : AluResult :=
  let res := a ||| b
  { res := res, flags := { sz53 res with h := false, pv := parity res, n := false, c := false } }

/-- `xor8` (R514). -/
def xor8 (a b : Byte) : AluResult :=
  let res := a ^^^ b
  { res := res, flags := { sz53 res with h := false, pv := parity res, n := false, c := false } }

/-- `inc8` (R515): add one, keeping the carry flag. -/
def inc8 (v : Byte) (oldC : Bool) : AluResult :=
  let r := add8 v 1 false
  { r with flags := { r.flags with c := oldC } }

/-- `dec8` (R516): subtract one, keeping the carry flag. -/
def dec8 (v : Byte) (oldC : Bool) : AluResult :=
  let r := sub8 v 1 false
  { r with flags := { r.flags with c := oldC } }

/-! ### Rotates and shifts -/

/-- The rotate and shift operations of R413; code 110 is none of them. -/
inductive RotOp where
  | rlc | rrc | rl | rr | sla | sra | srl
deriving DecidableEq, Repr

/-- The result column of R520's table. -/
def RotOp.result (k : RotOp) (v : Byte) (oldC : Bool) : Byte :=
  match k with
  | .rlc => v.extractLsb' 0 7 ++ v.extractLsb' 7 1
  | .rrc => v.extractLsb' 0 1 ++ v.extractLsb' 1 7
  | .rl => v.extractLsb' 0 7 ++ BitVec.ofBool oldC
  | .rr => BitVec.ofBool oldC ++ v.extractLsb' 1 7
  | .sla => v.extractLsb' 0 7 ++ BitVec.ofBool false
  | .sra => v.extractLsb' 7 1 ++ v.extractLsb' 1 7
  | .srl => BitVec.ofBool false ++ v.extractLsb' 1 7

/-- The carry column of R520's table: the bit that leaves the byte. -/
def RotOp.carry (k : RotOp) (v : Byte) : Bool :=
  match k with
  | .rlc | .rl | .sla => v.getLsbD 7
  | .rrc | .rr | .sra | .srl => v.getLsbD 0

/-- `rot8` (R520). -/
def rot8 (k : RotOp) (v : Byte) (oldC : Bool) : AluResult :=
  let res := k.result v oldC
  { res := res, flags := { sz53 res with h := false, pv := parity res, n := false, c := k.carry v } }

/-- `rota` (R521): the accumulator rotates write H, N and C only. -/
def rota (k : RotOp) (a : Byte) (old : Flags) : AluResult where
  res := k.result a old.c
  flags := { old with h := false, n := false, c := k.carry a }

/-- `rxd` (R522): the flags of RLD and RRD, from the new accumulator. -/
def rxd (a' : Byte) (oldC : Bool) : Flags :=
  { sz53 a' with h := false, pv := parity a', n := false, c := oldC }

/-- `in8` (R523): the flags of IN r,(C), from the byte read. -/
def in8 (v : Byte) (oldC : Bool) : Flags :=
  { sz53 v with h := false, pv := parity v, n := false, c := oldC }

/-! ### Decimal adjust -/

/-- The correction of R530: 0x06 for the low digit, 0x60 for the high digit. -/
def daaCorr (a : Byte) (c h : Bool) : Byte :=
  (if h || decide (9 < a.toNat % 16) then 0x06 else 0x00) |||
    (if c || decide (0x99 < a.toNat) then 0x60 else 0x00)

/-- `daa8` (R530). -/
def daa8 (a : Byte) (n c h : Bool) : AluResult :=
  let corr := daaCorr a c h
  let res := if n then a - corr else a + corr
  { res := res
    flags := { sz53 res with
      h := if n then h && decide (a.toNat % 16 < 6) else decide (9 < a.toNat % 16)
      pv := parity res
      n := n
      c := c || decide (0x99 < a.toNat) } }

/-! ### Sixteen-bit arithmetic -/

/-- A 16-bit result with the flags after it. -/
structure AluResult16 where
  res : Word
  flags : Flags
deriving DecidableEq, Repr

/-- `add16` (R540): writes H, N and C. -/
def add16 (a b : Word) (old : Flags) : AluResult16 :=
  let sum := a.toNat + b.toNat
  let res := BitVec.ofNat 16 sum
  { res := res
    flags := { old with
      h := (a ^^^ b ^^^ res).getLsbD 12
      n := false
      c := decide (65535 < sum) } }

/-- `adc16` (R541): writes all but F5 and F3. -/
def adc16 (a b : Word) (old : Flags) : AluResult16 :=
  let sum := a.toNat + b.toNat + old.c.toNat
  let res := BitVec.ofNat 16 sum
  { res := res
    flags := { old with
      s := res.getLsbD 15
      z := res == 0
      h := (a ^^^ b ^^^ res).getLsbD 12
      pv := a.getLsbD 15 == b.getLsbD 15 && res.getLsbD 15 != a.getLsbD 15
      n := false
      c := decide (65535 < sum) } }

/-- `sbc16` (R542): writes all but F5 and F3. -/
def sbc16 (a b : Word) (old : Flags) : AluResult16 :=
  let diff : Int := (a.toNat : Int) - b.toNat - old.c.toNat
  let res := BitVec.ofInt 16 diff
  { res := res
    flags := { old with
      s := res.getLsbD 15
      z := res == 0
      h := (a ^^^ b ^^^ res).getLsbD 12
      pv := a.getLsbD 15 != b.getLsbD 15 && res.getLsbD 15 != a.getLsbD 15
      n := true
      c := decide (diff < 0) } }

/-! ### Bit test, block instructions and conditions -/

/-- `bit` (R550): `freeS` and `freePV` are the two unspecified bits (U1). -/
def bitFlags (b : Fin 8) (v : Byte) (freeS freePV : Bool) (old : Flags) : Flags :=
  { old with s := freeS, z := !v.getLsbD b.val, h := true, pv := freePV, n := false }

/-- The flags of a block transfer (R1011): `bc` after the decrement. -/
def blockMoveFlags (bc : Word) (old : Flags) : Flags :=
  { old with h := false, pv := bc != 0, n := false }

/-- The flags of a block search (R1011): S, Z and H of the comparison, `bc` after the decrement. -/
def blockSearchFlags (cmp : Flags) (bc : Word) (old : Flags) : Flags :=
  { old with s := cmp.s, z := cmp.z, h := cmp.h, pv := bc != 0, n := true }

/-- The flags of a block input or output (R1403, R1409): `b` after the decrement, and the three
unspecified bits (U2). -/
def blockIoFlags (b : Byte) (freeS freeH freePV : Bool) (old : Flags) : Flags :=
  { old with s := freeS, z := b == 0, h := freeH, pv := freePV, n := true }

/-- The flags of LD A,I and LD A,R (R618, R619). -/
def loadSpecialFlags (v : Byte) (iff2 : Bool) (old : Flags) : Flags :=
  { old with s := v.getLsbD 7, z := v == 0, h := false, pv := iff2, n := false }

/-- Conditions (R409). -/
def condHolds (cc : Cond) (fl : Flags) : Bool :=
  match cc with
  | .nz => !fl.z
  | .z => fl.z
  | .nc => !fl.c
  | .c => fl.c
  | .po => !fl.pv
  | .pe => fl.pv
  | .p => !fl.s
  | .m => fl.s

/-! ### The two-operand operations on A (R412, R800) -/

inductive AluOp where
  | add | adc | sub | sbc | and | xor | or | cp
deriving DecidableEq, Repr

/-- The function each operation applies to A and its operand; ADC and SBC take the carry flag. -/
def AluOp.compute (op : AluOp) (a s : Byte) (oldC : Bool) : AluResult :=
  match op with
  | .add => add8 a s false
  | .adc => add8 a s oldC
  | .sub => sub8 a s false
  | .sbc => sub8 a s oldC
  | .and => and8 a s
  | .xor => xor8 a s
  | .or => or8 a s
  | .cp => sub8 a s false

/-- Every operation but CP writes A (R517, R800). -/
def AluOp.writesA (op : AluOp) : Bool :=
  match op with
  | .cp => false
  | .add | .adc | .sub | .sbc | .and | .xor | .or => true

end Sys2Proof.Machine
end

