-- ==== Sys2Proof/Machine/Memory.lean ====
section
/-! DEFINITION. One space of 65,536 byte cells in a canonical sparse form: Mem and Port are two of them
(R230, R232). Every address is readable and writable and has no side effect (R322, R330). -/

namespace Sys2Proof.Machine

/-- What an unlisted cell reads as. DESIGN CHOICE, unsafe: the contents at reset are unspecified (R260).
Log entry 2. -/
def Memory.unlisted : Byte := 0x00

/-- The byte in the cell with key `k`. -/
def Memory.cell : Memory → Nat → Byte
  | [], _ => Memory.unlisted
  | c :: m, k => if c.1 = k then c.2 else Memory.cell m k

/-- Put `v` in the cell with key `k`, keeping the keys rising. -/
def Memory.putCell : Memory → Nat → Byte → Memory
  | [], k, v => [(k, v)]
  | c :: m, k, v =>
    if k < c.1 then (k, v) :: c :: m
    else if c.1 = k then (k, v) :: m
    else c :: Memory.putCell m k v

/-- List no cell with key `k`. -/
def Memory.unlist (m : Memory) (k : Nat) : Memory := m.filter fun c => c.1 != k

/-- Read one byte (R302, R322). -/
def Memory.read (m : Memory) (addr : Word) : Byte := Memory.cell m addr.toNat

/-- Write one byte; writing what an unlisted cell reads as unlists the cell. -/
def Memory.write (m : Memory) (addr : Word) (v : Byte) : Memory :=
  if v = Memory.unlisted then Memory.unlist m addr.toNat else Memory.putCell m addr.toNat v

/-- The canonical form: keys strictly rising and below 65,536, no cell listed that holds what an unlisted
one reads as. Equal spaces in this form are equal data. -/
abbrev Memory.wf (m : Memory) : Prop :=
  m.Pairwise (fun c c' => c.1 < c'.1) ∧ ∀ c ∈ m, c.1 < Config.cells ∧ c.2 ≠ Memory.unlisted

end Sys2Proof.Machine
end

