-- ==== Sys2Proof/Machine/Ops.lean ====
section
/-! DEFINITION. The named operations over registers, memory, ports, the stack and the clock, through which
every meaning reads and writes the state; and the one event of the core, Unimplemented. -/

namespace Sys2Proof.Machine

/-! ### One register set (R200, R201, R204) -/

/-- `R8[r]` of a register set (R204). -/
def RegSet.get (rs : RegSet) (r : Reg8) : Byte :=
  match r with
  | .b => rs.b
  | .c => rs.c
  | .d => rs.d
  | .e => rs.e
  | .h => rs.h
  | .l => rs.l
  | .a => rs.a

def RegSet.set (rs : RegSet) (r : Reg8) (v : Byte) : RegSet :=
  match r with
  | .b => { rs with b := v }
  | .c => { rs with c := v }
  | .d => { rs with d := v }
  | .e => { rs with e := v }
  | .h => { rs with h := v }
  | .l => { rs with l := v }
  | .a => { rs with a := v }

/-- The pair BC: B is the high byte (R201). -/
def RegSet.bc (rs : RegSet) : Word := joinBytes rs.b rs.c

/-- The pair DE (R201). -/
def RegSet.de (rs : RegSet) : Word := joinBytes rs.d rs.e

/-- The pair HL (R201). -/
def RegSet.hl (rs : RegSet) : Word := joinBytes rs.h rs.l

/-- The pair AF (R201). -/
def RegSet.af (rs : RegSet) : Word := joinBytes rs.a rs.f

def RegSet.setBC (rs : RegSet) (v : Word) : RegSet := { rs with b := hiByte v, c := loByte v }

def RegSet.setDE (rs : RegSet) (v : Word) : RegSet := { rs with d := hiByte v, e := loByte v }

def RegSet.setHL (rs : RegSet) (v : Word) : RegSet := { rs with h := hiByte v, l := loByte v }

def RegSet.setAF (rs : RegSet) (v : Word) : RegSet := { rs with a := hiByte v, f := loByte v }

/-! ### Registers of the machine -/

def State.reg (s : State) (r : Reg8) : Byte := s.regs.get r

def State.setReg (s : State) (r : Reg8) (v : Byte) : State := { s with regs := s.regs.set r v }

def State.setA (s : State) (v : Byte) : State := { s with regs := { s.regs with a := v } }

def State.setB (s : State) (v : Byte) : State := { s with regs := { s.regs with b := v } }

def State.bc (s : State) : Word := s.regs.bc

def State.de (s : State) : Word := s.regs.de

def State.hl (s : State) : Word := s.regs.hl

def State.af (s : State) : Word := s.regs.af

def State.setBC (s : State) (v : Word) : State := { s with regs := s.regs.setBC v }

def State.setDE (s : State) (v : Word) : State := { s with regs := s.regs.setDE v }

def State.setHL (s : State) (v : Word) : State := { s with regs := s.regs.setHL v }

def State.setAF (s : State) (v : Word) : State := { s with regs := s.regs.setAF v }

/-- The main and the shadow register set, replaced together (R202). -/
def State.setRegSets (s : State) (main shadow : RegSet) : State :=
  { s with regs := main, shadow := shadow }

def State.setIX (s : State) (v : Word) : State := { s with ix := v }

def State.setIY (s : State) (v : Word) : State := { s with iy := v }

def State.setSP (s : State) (v : Word) : State := { s with sp := v }

def State.setPC (s : State) (v : Word) : State := { s with pc := v }

def State.setI (s : State) (v : Byte) : State := { s with i := v }

def State.setR (s : State) (v : Byte) : State := { s with r := v }

def State.setIff (s : State) (iff1 iff2 : Bool) : State := { s with iff1 := iff1, iff2 := iff2 }

def State.setIM (s : State) (m : IntMode) : State := { s with im := m }

def State.setHalt (s : State) : State := { s with halt := true }

/-! ### Flags (R210, R211) -/

def State.flags (s : State) : Flags := Flags.ofByte s.regs.f

def State.setFlags (s : State) (fl : Flags) : State := { s with regs := { s.regs with f := fl.toByte } }

/-! ### Memory and ports (R110, R300, R302, R311) -/

def State.readMem (s : State) (addr : Word) : Byte := s.mem.read addr

def State.writeMem (s : State) (addr : Word) (v : Byte) : State := { s with mem := s.mem.write addr v }

/-- `MemRead(a, 2)`: low byte at `a`, high byte at `a + 1` modulo 65536. -/
def State.readMem16 (s : State) (addr : Word) : Word :=
  joinBytes (s.readMem (addr + 1)) (s.readMem addr)

/-- `MemWrite(a, 2, v)`. -/
def State.writeMem16 (s : State) (addr : Word) (v : Word) : State :=
  (s.writeMem addr (loByte v)).writeMem (addr + 1) (hiByte v)

/-- `PortRead` (R232). -/
def State.readPort (s : State) (addr : Word) : Byte := s.port.read addr

/-- `PortWrite` (R232). -/
def State.writePort (s : State) (addr : Word) (v : Byte) : State :=
  { s with port := s.port.write addr v }

/-! ### The stack (R208, R303) -/

/-- `Push16`: high byte at SP - 1, low byte at SP - 2. -/
def State.push16 (s : State) (v : Word) : State :=
  ((s.writeMem (s.sp - 1) (hiByte v)).writeMem (s.sp - 2) (loByte v)).setSP (s.sp - 2)

/-- The word `Pop16` returns. -/
def State.stackTop (s : State) : Word := s.readMem16 s.sp

/-- What `Pop16` does to SP. -/
def State.dropTop (s : State) : State := s.setSP (s.sp + 2)

/-! ### The clock (R225, R1640) -/

/-- Accumulate T-states. -/
def State.tick (s : State) (n : Nat) : State := { s with tCycles := s.tCycles + n }

/-! ### Unspecified flag bits (U1, U2; log entry 3) -/

/-- The `k`-th unspecified bit from here on. -/
def State.freeBit (s : State) (k : Nat) : Bool := Config.unspecBit (s.draws + k)

/-- Count `n` unspecified bits as drawn. -/
def State.useDraws (s : State) (n : Nat) : State := { s with draws := s.draws + n }

/-! ### The step's frame (R440, R1530, R1531) -/

/-- The longest instruction, in bytes (R400). -/
def maxInstrLength : Nat := 4

/-- The four bytes from PC on, across the wrap at 0xFFFF (R209, R311). -/
def State.fetchWindow (s : State) : List Byte :=
  [s.readMem s.pc, s.readMem (s.pc + 1), s.readMem (s.pc + 2), s.readMem (s.pc + 3)]

/-- How many bytes of the window the decoder fetched, from the bytes it left. -/
def fetchedLength (rest : List Byte) : Nat := maxInstrLength - rest.length

/-- The state in which an instruction's Operation starts: PC past its bytes (R440), the step's outputs
cleared (R225, R1501). -/
def State.beginInstr (s : State) (length : Nat) : State :=
  { s with pc := s.pc + BitVec.ofNat 16 length, tCycles := 0, diag := none }

/-- A step in the halt state: no architectural change, `tCycles` 0, DIAG not asserted (R1531). -/
def State.idle (s : State) : State := { s with tCycles := 0, diag := none }

/-- TAKING THE ONE EVENT of the core, Unimplemented (R450, R1501, R1502): DIAG carries PC0 and the bytes,
and the sticky bit is set. PC already stands after the bytes, so PC0 is PC less their number. No state is
saved, control goes nowhere else (R1514), and there is nothing to return from (R1515). -/
def State.raiseUnimplemented (s : State) (bytes : List Byte) : State :=
  { s with diag := some ⟨s.pc - BitVec.ofNat 16 bytes.length, bytes⟩, unimplSeen := true }

/-- Store bytes from an address on, wrapping at 0xFFFF, in increasing order (R331). -/
def State.storeBytes (s : State) (addr : Word) (bytes : List Byte) : State :=
  match bytes with
  | [] => s
  | v :: vs => (s.writeMem addr v).storeBytes (addr + 1) vs

end Sys2Proof.Machine
end

