-- ==== Sys2Proof/Machine/Operands.lean ====
section
/-! DEFINITION. Operand forms (R205, R421, R422): 8-bit operands in a register, in memory or immediate,
16-bit pair operands, indexed addresses, relative targets and port addresses. -/

namespace Sys2Proof.Machine

/-! ### Addresses -/

/-- `sext_8` (R108, R421). -/
def sext (d : Byte) : Word := d.signExtend 16

/-- `base + sext_8(d)` modulo 65536 (R421). -/
def indexed (base : Word) (d : Byte) : Word := base + sext d

/-- The port address of IN A,(n) and OUT (n),A: A is the high byte (R1400). -/
def State.portAN (s : State) (n : Byte) : Word := joinBytes s.regs.a n

/-- The target of a relative jump, from PC past the instruction (R1300). -/
def State.relative (s : State) (e : Byte) : Word := s.pc + sext e

/-- The restart address `8 * t` (R411). -/
def restartAddress (t : Fin 8) : Word := BitVec.ofNat 16 (8 * t.val)

/-! ### Eight-bit operands -/

/-- The operand `m`: a register, (HL), (IX+d) or (IY+d). -/
inductive Loc8 where
  | reg (r : Reg8)
  | hl
  | ix (d : Byte)
  | iy (d : Byte)
deriving DecidableEq, Repr

/-- The operand `s`: the operand `m` or an immediate. -/
inductive Src8 where
  | loc (l : Loc8)
  | imm (n : Byte)
deriving DecidableEq, Repr

/-- The memory address an operand names, if it is a memory operand. -/
def Loc8.addr (l : Loc8) (s : State) : Option Word :=
  match l with
  | .reg _ => none
  | .hl => some s.hl
  | .ix d => some (indexed s.ix d)
  | .iy d => some (indexed s.iy d)

def Loc8.read (l : Loc8) (s : State) : Byte :=
  match l with
  | .reg r => s.reg r
  | .hl => s.readMem s.hl
  | .ix d => s.readMem (indexed s.ix d)
  | .iy d => s.readMem (indexed s.iy d)

def Loc8.write (l : Loc8) (v : Byte) (s : State) : State :=
  match l with
  | .reg r => s.setReg r v
  | .hl => s.writeMem s.hl v
  | .ix d => s.writeMem (indexed s.ix d) v
  | .iy d => s.writeMem (indexed s.iy d) v

def Src8.read (o : Src8) (s : State) : Byte :=
  match o with
  | .loc l => l.read s
  | .imm n => n

/-! ### Sixteen-bit operands (R205) -/

/-- `RP[dd]`, `RP[ss]`. -/
def State.pairDD (s : State) (p : PairDD) : Word :=
  match p with
  | .bc => s.bc
  | .de => s.de
  | .hl => s.hl
  | .sp => s.sp

def State.setPairDD (s : State) (p : PairDD) (v : Word) : State :=
  match p with
  | .bc => s.setBC v
  | .de => s.setDE v
  | .hl => s.setHL v
  | .sp => s.setSP v

/-- `RQ[qq]`. -/
def State.pairQQ (s : State) (p : PairQQ) : Word :=
  match p with
  | .bc => s.bc
  | .de => s.de
  | .hl => s.hl
  | .af => s.af

def State.setPairQQ (s : State) (p : PairQQ) (v : Word) : State :=
  match p with
  | .bc => s.setBC v
  | .de => s.setDE v
  | .hl => s.setHL v
  | .af => s.setAF v

/-- `RPX[pp]`. -/
def State.pairPP (s : State) (p : PairPP) : Word :=
  match p with
  | .bc => s.bc
  | .de => s.de
  | .ix => s.ix
  | .sp => s.sp

/-- `RPY[rr]`. -/
def State.pairRR (s : State) (p : PairRR) : Word :=
  match p with
  | .bc => s.bc
  | .de => s.de
  | .iy => s.iy
  | .sp => s.sp

/-! ### The shared effects of a form -/

/-- `op A,s` (R800): all flags are written; A too, but for CP. -/
def State.alu (s : State) (op : AluOp) (o : Src8) : State :=
  let r := op.compute s.regs.a (o.read s) s.flags.c
  if op.writesA then (s.setA r.res).setFlags r.flags else s.setFlags r.flags

/-- INC m (R515, R841): read, add one, write back, set the flags. -/
def State.incLoc (s : State) (l : Loc8) : State :=
  let r := inc8 (l.read s) s.flags.c
  (l.write r.res s).setFlags r.flags

/-- DEC m (R516, R845). -/
def State.decLoc (s : State) (l : Loc8) : State :=
  let r := dec8 (l.read s) s.flags.c
  (l.write r.res s).setFlags r.flags

/-- A CB rotate or shift of m (R520, R1100). -/
def State.rotLoc (s : State) (k : RotOp) (l : Loc8) : State :=
  let r := rot8 k (l.read s) s.flags.c
  (l.write r.res s).setFlags r.flags

/-- RLCA, RRCA, RLA, RRA (R521). -/
def State.rotA (s : State) (k : RotOp) : State :=
  let r := rota k s.regs.a s.flags
  (s.setA r.res).setFlags r.flags

/-- BIT b,m (R550): two unspecified bits are drawn. -/
def State.bitTest (s : State) (b : Fin 8) (l : Loc8) : State :=
  (s.setFlags (bitFlags b (l.read s) (s.freeBit 0) (s.freeBit 1) s.flags)).useDraws 2

/-- SET b,m (R1205). -/
def State.setBit (s : State) (b : Fin 8) (l : Loc8) : State :=
  l.write (l.read s ||| (1#8 <<< b.val)) s

/-- RES b,m (R1209). -/
def State.resBit (s : State) (b : Fin 8) (l : Loc8) : State :=
  l.write (l.read s &&& ~~~(1#8 <<< b.val)) s

/-- The step of a block cursor: up or down by one (R1010). -/
inductive Cursor where
  | up | down
deriving DecidableEq, Repr

def Cursor.move (k : Cursor) (v : Word) : Word :=
  match k with
  | .up => v + 1
  | .down => v - 1

/-- One element of a block transfer (R1013, R1015). -/
def State.blockMove (s : State) (k : Cursor) : State :=
  let bc := s.bc - 1
  ((((s.writeMem s.de (s.readMem s.hl)).setHL (k.move s.hl)).setDE (k.move s.de)).setBC bc).setFlags
    (blockMoveFlags bc s.flags)

/-- One element of a block search (R1017, R1019). -/
def State.blockSearch (s : State) (k : Cursor) : State :=
  let cmp := sub8 s.regs.a (s.readMem s.hl) false
  let bc := s.bc - 1
  ((s.setHL (k.move s.hl)).setBC bc).setFlags (blockSearchFlags cmp.flags bc s.flags)

/-- One element of a block input (R1403, R1405): the port address holds B before the decrement. Three
unspecified bits are drawn. -/
def State.blockIn (s : State) (k : Cursor) : State :=
  let b := s.regs.b - 1
  ((((s.writeMem s.hl (s.readPort s.bc)).setHL (k.move s.hl)).setB b).setFlags
    (blockIoFlags b (s.freeBit 0) (s.freeBit 1) (s.freeBit 2) s.flags)).useDraws 3

/-- One element of a block output (R1409, R1411): the port address holds B after the decrement. -/
def State.blockOut (s : State) (k : Cursor) : State :=
  let b := s.regs.b - 1
  ((((s.setB b).writePort (joinBytes b s.regs.c) (s.readMem s.hl)).setHL (k.move s.hl)).setFlags
    (blockIoFlags b (s.freeBit 0) (s.freeBit 1) (s.freeBit 2) s.flags)).useDraws 3

/-- PC back to the repeating instruction's first byte (R1012), with the T-states of an element that
repeats and of the last one (R1640). -/
def State.repeatIf (s : State) (again : Bool) : State :=
  if again then (s.setPC (s.pc - 2)).tick 21 else s.tick 16

/-- A relative jump under a condition; T-states taken, not taken (R1300, R1640). -/
def State.jumpRelIf (s : State) (taken : Bool) (e : Byte) (tTaken tNot : Nat) : State :=
  if taken then (s.setPC (s.relative e)).tick tTaken else s.tick tNot

/-- A call: push the address of the next instruction, go to the target (R1320). -/
def State.callTo (s : State) (target : Word) : State := (s.push16 s.pc).setPC target

/-- A return: pop PC (R1320). -/
def State.returnTo (s : State) : State := (s.setPC s.stackTop).dropTop

end Sys2Proof.Machine
end

