-- ==== Sys2Proof/Machine/Arith16.lean ====
section
/-! DEFINITION. The meanings of the 16-bit arithmetic group (44_arith16.md).
In every one PC is already past the instruction (R440); the last number is its T-states (R1640). -/

namespace Sys2Proof.Machine

/-- `ADD HL,ss` (R901). -/
def execAddHlSs (ss : PairDD) (s : State) : Host.Outcome State Fault Refusal :=
  let r := add16 s.hl (s.pairDD ss) s.flags
  .next (((s.setHL r.res).setFlags r.flags).tick 11)

/-- `ADC HL,ss` (R902). -/
def execAdcHlSs (ss : PairDD) (s : State) : Host.Outcome State Fault Refusal :=
  let r := adc16 s.hl (s.pairDD ss) s.flags
  .next (((s.setHL r.res).setFlags r.flags).tick 15)

/-- `SBC HL,ss` (R903). -/
def execSbcHlSs (ss : PairDD) (s : State) : Host.Outcome State Fault Refusal :=
  let r := sbc16 s.hl (s.pairDD ss) s.flags
  .next (((s.setHL r.res).setFlags r.flags).tick 15)

/-- `ADD IX,pp` (R904). -/
def execAddIxPp (pp : PairPP) (s : State) : Host.Outcome State Fault Refusal :=
  let r := add16 s.ix (s.pairPP pp) s.flags
  .next (((s.setIX r.res).setFlags r.flags).tick 15)

/-- `ADD IY,rr` (R905). -/
def execAddIyRr (rr : PairRR) (s : State) : Host.Outcome State Fault Refusal :=
  let r := add16 s.iy (s.pairRR rr) s.flags
  .next (((s.setIY r.res).setFlags r.flags).tick 15)

/-- `INC ss` (R906). -/
def execIncSs (ss : PairDD) (s : State) : Host.Outcome State Fault Refusal :=
  .next ((s.setPairDD ss (s.pairDD ss + 1)).tick 6)

/-- `INC IX` (R907). -/
def execIncIx (s : State) : Host.Outcome State Fault Refusal :=
  .next ((s.setIX (s.ix + 1)).tick 10)

/-- `INC IY` (R908). -/
def execIncIy (s : State) : Host.Outcome State Fault Refusal :=
  .next ((s.setIY (s.iy + 1)).tick 10)

/-- `DEC ss` (R909). -/
def execDecSs (ss : PairDD) (s : State) : Host.Outcome State Fault Refusal :=
  .next ((s.setPairDD ss (s.pairDD ss - 1)).tick 6)

/-- `DEC IX` (R910). -/
def execDecIx (s : State) : Host.Outcome State Fault Refusal :=
  .next ((s.setIX (s.ix - 1)).tick 10)

/-- `DEC IY` (R911). -/
def execDecIy (s : State) : Host.Outcome State Fault Refusal :=
  .next ((s.setIY (s.iy - 1)).tick 10)

end Sys2Proof.Machine
end

