-- ==== Sys2Proof/Machine/Arith8.lean ====
section
/-! DEFINITION. The meanings of the 8-bit arithmetic and logic group (43_arith8.md).
In every one PC is already past the instruction (R440); the last number is its T-states (R1640). -/

namespace Sys2Proof.Machine

/-- `ADD A,r` (R801). -/
def execAddAR (r : Reg8) (s : State) : Host.Outcome State Fault Refusal :=
  .next ((s.alu .add (.loc (.reg r))).tick 4)

/-- `ADD A,n` (R802). -/
def execAddAN (n : Byte) (s : State) : Host.Outcome State Fault Refusal :=
  .next ((s.alu .add (.imm n)).tick 7)

/-- `ADD A,(HL)` (R803). -/
def execAddAHl (s : State) : Host.Outcome State Fault Refusal :=
  .next ((s.alu .add (.loc .hl)).tick 7)

/-- `ADD A,(IX+d)` (R804). -/
def execAddAIxD (d : Byte) (s : State) : Host.Outcome State Fault Refusal :=
  .next ((s.alu .add (.loc (.ix d))).tick 19)

/-- `ADD A,(IY+d)` (R805). -/
def execAddAIyD (d : Byte) (s : State) : Host.Outcome State Fault Refusal :=
  .next ((s.alu .add (.loc (.iy d))).tick 19)

/-- `ADC A,r` (R806). -/
def execAdcAR (r : Reg8) (s : State) : Host.Outcome State Fault Refusal :=
  .next ((s.alu .adc (.loc (.reg r))).tick 4)

/-- `ADC A,n` (R807). -/
def execAdcAN (n : Byte) (s : State) : Host.Outcome State Fault Refusal :=
  .next ((s.alu .adc (.imm n)).tick 7)

/-- `ADC A,(HL)` (R808). -/
def execAdcAHl (s : State) : Host.Outcome State Fault Refusal :=
  .next ((s.alu .adc (.loc .hl)).tick 7)

/-- `ADC A,(IX+d)` (R809). -/
def execAdcAIxD (d : Byte) (s : State) : Host.Outcome State Fault Refusal :=
  .next ((s.alu .adc (.loc (.ix d))).tick 19)

/-- `ADC A,(IY+d)` (R810). -/
def execAdcAIyD (d : Byte) (s : State) : Host.Outcome State Fault Refusal :=
  .next ((s.alu .adc (.loc (.iy d))).tick 19)

/-- `SUB r` (R811). -/
def execSubR (r : Reg8) (s : State) : Host.Outcome State Fault Refusal :=
  .next ((s.alu .sub (.loc (.reg r))).tick 4)

/-- `SUB n` (R812). -/
def execSubN (n : Byte) (s : State) : Host.Outcome State Fault Refusal :=
  .next ((s.alu .sub (.imm n)).tick 7)

/-- `SUB (HL)` (R813). -/
def execSubHl (s : State) : Host.Outcome State Fault Refusal :=
  .next ((s.alu .sub (.loc .hl)).tick 7)

/-- `SUB (IX+d)` (R814). -/
def execSubIxD (d : Byte) (s : State) : Host.Outcome State Fault Refusal :=
  .next ((s.alu .sub (.loc (.ix d))).tick 19)

/-- `SUB (IY+d)` (R815). -/
def execSubIyD (d : Byte) (s : State) : Host.Outcome State Fault Refusal :=
  .next ((s.alu .sub (.loc (.iy d))).tick 19)

/-- `SBC A,r` (R816). -/
def execSbcAR (r : Reg8) (s : State) : Host.Outcome State Fault Refusal :=
  .next ((s.alu .sbc (.loc (.reg r))).tick 4)

/-- `SBC A,n` (R817). -/
def execSbcAN (n : Byte) (s : State) : Host.Outcome State Fault Refusal :=
  .next ((s.alu .sbc (.imm n)).tick 7)

/-- `SBC A,(HL)` (R818). -/
def execSbcAHl (s : State) : Host.Outcome State Fault Refusal :=
  .next ((s.alu .sbc (.loc .hl)).tick 7)

/-- `SBC A,(IX+d)` (R819). -/
def execSbcAIxD (d : Byte) (s : State) : Host.Outcome State Fault Refusal :=
  .next ((s.alu .sbc (.loc (.ix d))).tick 19)

/-- `SBC A,(IY+d)` (R820). -/
def execSbcAIyD (d : Byte) (s : State) : Host.Outcome State Fault Refusal :=
  .next ((s.alu .sbc (.loc (.iy d))).tick 19)

/-- `AND r` (R821). -/
def execAndR (r : Reg8) (s : State) : Host.Outcome State Fault Refusal :=
  .next ((s.alu .and (.loc (.reg r))).tick 4)

/-- `AND n` (R822). -/
def execAndN (n : Byte) (s : State) : Host.Outcome State Fault Refusal :=
  .next ((s.alu .and (.imm n)).tick 7)

/-- `AND (HL)` (R823). -/
def execAndHl (s : State) : Host.Outcome State Fault Refusal :=
  .next ((s.alu .and (.loc .hl)).tick 7)

/-- `AND (IX+d)` (R824). -/
def execAndIxD (d : Byte) (s : State) : Host.Outcome State Fault Refusal :=
  .next ((s.alu .and (.loc (.ix d))).tick 19)

/-- `AND (IY+d)` (R825). -/
def execAndIyD (d : Byte) (s : State) : Host.Outcome State Fault Refusal :=
  .next ((s.alu .and (.loc (.iy d))).tick 19)

/-- `OR r` (R826). -/
def execOrR (r : Reg8) (s : State) : Host.Outcome State Fault Refusal :=
  .next ((s.alu .or (.loc (.reg r))).tick 4)

/-- `OR n` (R827). -/
def execOrN (n : Byte) (s : State) : Host.Outcome State Fault Refusal :=
  .next ((s.alu .or (.imm n)).tick 7)

/-- `OR (HL)` (R828). -/
def execOrHl (s : State) : Host.Outcome State Fault Refusal :=
  .next ((s.alu .or (.loc .hl)).tick 7)

/-- `OR (IX+d)` (R829). -/
def execOrIxD (d : Byte) (s : State) : Host.Outcome State Fault Refusal :=
  .next ((s.alu .or (.loc (.ix d))).tick 19)

/-- `OR (IY+d)` (R830). -/
def execOrIyD (d : Byte) (s : State) : Host.Outcome State Fault Refusal :=
  .next ((s.alu .or (.loc (.iy d))).tick 19)

/-- `XOR r` (R831). -/
def execXorR (r : Reg8) (s : State) : Host.Outcome State Fault Refusal :=
  .next ((s.alu .xor (.loc (.reg r))).tick 4)

/-- `XOR n` (R832). -/
def execXorN (n : Byte) (s : State) : Host.Outcome State Fault Refusal :=
  .next ((s.alu .xor (.imm n)).tick 7)

/-- `XOR (HL)` (R833). -/
def execXorHl (s : State) : Host.Outcome State Fault Refusal :=
  .next ((s.alu .xor (.loc .hl)).tick 7)

/-- `XOR (IX+d)` (R834). -/
def execXorIxD (d : Byte) (s : State) : Host.Outcome State Fault Refusal :=
  .next ((s.alu .xor (.loc (.ix d))).tick 19)

/-- `XOR (IY+d)` (R835). -/
def execXorIyD (d : Byte) (s : State) : Host.Outcome State Fault Refusal :=
  .next ((s.alu .xor (.loc (.iy d))).tick 19)

/-- `CP r` (R836). -/
def execCpR (r : Reg8) (s : State) : Host.Outcome State Fault Refusal :=
  .next ((s.alu .cp (.loc (.reg r))).tick 4)

/-- `CP n` (R837). -/
def execCpN (n : Byte) (s : State) : Host.Outcome State Fault Refusal :=
  .next ((s.alu .cp (.imm n)).tick 7)

/-- `CP (HL)` (R838). -/
def execCpHl (s : State) : Host.Outcome State Fault Refusal :=
  .next ((s.alu .cp (.loc .hl)).tick 7)

/-- `CP (IX+d)` (R839). -/
def execCpIxD (d : Byte) (s : State) : Host.Outcome State Fault Refusal :=
  .next ((s.alu .cp (.loc (.ix d))).tick 19)

/-- `CP (IY+d)` (R840). -/
def execCpIyD (d : Byte) (s : State) : Host.Outcome State Fault Refusal :=
  .next ((s.alu .cp (.loc (.iy d))).tick 19)

/-- `INC r` (R841). -/
def execIncR (r : Reg8) (s : State) : Host.Outcome State Fault Refusal :=
  .next ((s.incLoc (.reg r)).tick 4)

/-- `INC (HL)` (R842). -/
def execIncHl (s : State) : Host.Outcome State Fault Refusal :=
  .next ((s.incLoc .hl).tick 11)

/-- `INC (IX+d)` (R843). -/
def execIncIxD (d : Byte) (s : State) : Host.Outcome State Fault Refusal :=
  .next ((s.incLoc (.ix d)).tick 23)

/-- `INC (IY+d)` (R844). -/
def execIncIyD (d : Byte) (s : State) : Host.Outcome State Fault Refusal :=
  .next ((s.incLoc (.iy d)).tick 23)

/-- `DEC r` (R845). -/
def execDecR (r : Reg8) (s : State) : Host.Outcome State Fault Refusal :=
  .next ((s.decLoc (.reg r)).tick 4)

/-- `DEC (HL)` (R846). -/
def execDecHl (s : State) : Host.Outcome State Fault Refusal :=
  .next ((s.decLoc .hl).tick 11)

/-- `DEC (IX+d)` (R847). -/
def execDecIxD (d : Byte) (s : State) : Host.Outcome State Fault Refusal :=
  .next ((s.decLoc (.ix d)).tick 23)

/-- `DEC (IY+d)` (R848). -/
def execDecIyD (d : Byte) (s : State) : Host.Outcome State Fault Refusal :=
  .next ((s.decLoc (.iy d)).tick 23)

end Sys2Proof.Machine
end

