-- ==== Sys2Proof/Machine/Bits.lean ====
section
/-! DEFINITION. The meanings of the bit set, reset and test group (47_bit.md).
In every one PC is already past the instruction (R440); the last number is its T-states (R1640). -/

namespace Sys2Proof.Machine

/-- `BIT b,r` (R1201). -/
def execBitR (b : Fin 8) (r : Reg8) (s : State) : Host.Outcome State Fault Refusal :=
  .next ((s.bitTest b (.reg r)).tick 8)

/-- `BIT b,(HL)` (R1202). -/
def execBitHl (b : Fin 8) (s : State) : Host.Outcome State Fault Refusal :=
  .next ((s.bitTest b .hl).tick 12)

/-- `BIT b,(IX+d)` (R1203). -/
def execBitIxD (b : Fin 8) (d : Byte) (s : State) : Host.Outcome State Fault Refusal :=
  .next ((s.bitTest b (.ix d)).tick 20)

/-- `BIT b,(IY+d)` (R1204). -/
def execBitIyD (b : Fin 8) (d : Byte) (s : State) : Host.Outcome State Fault Refusal :=
  .next ((s.bitTest b (.iy d)).tick 20)

/-- `SET b,r` (R1205). -/
def execSetR (b : Fin 8) (r : Reg8) (s : State) : Host.Outcome State Fault Refusal :=
  .next ((s.setBit b (.reg r)).tick 8)

/-- `SET b,(HL)` (R1206). -/
def execSetHl (b : Fin 8) (s : State) : Host.Outcome State Fault Refusal :=
  .next ((s.setBit b .hl).tick 15)

/-- `SET b,(IX+d)` (R1207). -/
def execSetIxD (b : Fin 8) (d : Byte) (s : State) : Host.Outcome State Fault Refusal :=
  .next ((s.setBit b (.ix d)).tick 23)

/-- `SET b,(IY+d)` (R1208). -/
def execSetIyD (b : Fin 8) (d : Byte) (s : State) : Host.Outcome State Fault Refusal :=
  .next ((s.setBit b (.iy d)).tick 23)

/-- `RES b,r` (R1209). -/
def execResR (b : Fin 8) (r : Reg8) (s : State) : Host.Outcome State Fault Refusal :=
  .next ((s.resBit b (.reg r)).tick 8)

/-- `RES b,(HL)` (R1210). -/
def execResHl (b : Fin 8) (s : State) : Host.Outcome State Fault Refusal :=
  .next ((s.resBit b .hl).tick 15)

/-- `RES b,(IX+d)` (R1211). -/
def execResIxD (b : Fin 8) (d : Byte) (s : State) : Host.Outcome State Fault Refusal :=
  .next ((s.resBit b (.ix d)).tick 23)

/-- `RES b,(IY+d)` (R1212). -/
def execResIyD (b : Fin 8) (d : Byte) (s : State) : Host.Outcome State Fault Refusal :=
  .next ((s.resBit b (.iy d)).tick 23)

end Sys2Proof.Machine
end

