-- ==== Sys2Proof/Machine/Control.lean ====
section
/-! DEFINITION. The meanings of the general-purpose arithmetic and CPU control group (49_io_and_cpu_control.md section 2).
In every one PC is already past the instruction (R440); the last number is its T-states (R1640). -/

namespace Sys2Proof.Machine

/-- `DAA` (R1421). -/
def execDaa (s : State) : Host.Outcome State Fault Refusal :=
  let r := daa8 s.regs.a s.flags.n s.flags.c s.flags.h
  .next (((s.setA r.res).setFlags r.flags).tick 4)

/-- `CPL` (R1422). -/
def execCpl (s : State) : Host.Outcome State Fault Refusal :=
  .next (((s.setA (s.regs.a ^^^ 0xFF)).setFlags { s.flags with h := true, n := true }).tick 4)

/-- `NEG` (R1423). -/
def execNeg (s : State) : Host.Outcome State Fault Refusal :=
  let r := sub8 0 s.regs.a false
  .next (((s.setA r.res).setFlags r.flags).tick 8)

/-- `CCF` (R1424). -/
def execCcf (s : State) : Host.Outcome State Fault Refusal :=
  .next ((s.setFlags { s.flags with h := s.flags.c, n := false, c := !s.flags.c }).tick 4)

/-- `SCF` (R1425). -/
def execScf (s : State) : Host.Outcome State Fault Refusal :=
  .next ((s.setFlags { s.flags with h := false, n := false, c := true }).tick 4)

/-- `NOP` (R1426). -/
def execNop (s : State) : Host.Outcome State Fault Refusal :=
  .next (s.tick 4)

/-- `HALT` (R1430). -/
def execHalt (s : State) : Host.Outcome State Fault Refusal :=
  .next (s.setHalt.tick 4)

/-- `DI` (R1431). -/
def execDi (s : State) : Host.Outcome State Fault Refusal :=
  .next ((s.setIff false false).tick 4)

/-- `EI` (R1432). -/
def execEi (s : State) : Host.Outcome State Fault Refusal :=
  .next ((s.setIff true true).tick 4)

/-- `IM 0` (R1433). -/
def execIm0 (s : State) : Host.Outcome State Fault Refusal :=
  .next ((s.setIM .im0).tick 8)

/-- `IM 1` (R1434). -/
def execIm1 (s : State) : Host.Outcome State Fault Refusal :=
  .next ((s.setIM .im1).tick 8)

/-- `IM 2` (R1435). -/
def execIm2 (s : State) : Host.Outcome State Fault Refusal :=
  .next ((s.setIM .im2).tick 8)

end Sys2Proof.Machine
end

