-- ==== Sys2Proof/Machine/Exchange.lean ====
section
/-! DEFINITION. The meanings of the exchange, block transfer and block search group (45_exchange_block_search.md).
In every one PC is already past the instruction (R440); the last number is its T-states (R1640). -/

namespace Sys2Proof.Machine

/-- `EX DE,HL` (R1000). -/
def execExDeHl (s : State) : Host.Outcome State Fault Refusal :=
  .next (((s.setDE s.hl).setHL s.de).tick 4)

/-- `EX AF,AF'` (R1001). -/
def execExAfAf (s : State) : Host.Outcome State Fault Refusal :=
  .next ((s.setRegSets (s.regs.setAF s.shadow.af) (s.shadow.setAF s.regs.af)).tick 4)

/-- `EXX` (R1002). -/
def execExx (s : State) : Host.Outcome State Fault Refusal :=
  .next ((s.setRegSets
    (((s.regs.setBC s.shadow.bc).setDE s.shadow.de).setHL s.shadow.hl)
    (((s.shadow.setBC s.regs.bc).setDE s.regs.de).setHL s.regs.hl)).tick 4)

/-- `EX (SP),HL` (R1003). -/
def execExSpHl (s : State) : Host.Outcome State Fault Refusal :=
  .next (((s.writeMem16 s.sp s.hl).setHL (s.readMem16 s.sp)).tick 19)

/-- `EX (SP),IX` (R1004). -/
def execExSpIx (s : State) : Host.Outcome State Fault Refusal :=
  .next (((s.writeMem16 s.sp s.ix).setIX (s.readMem16 s.sp)).tick 23)

/-- `EX (SP),IY` (R1005). -/
def execExSpIy (s : State) : Host.Outcome State Fault Refusal :=
  .next (((s.writeMem16 s.sp s.iy).setIY (s.readMem16 s.sp)).tick 23)

/-- `LDI` (R1013). -/
def execLdi (s : State) : Host.Outcome State Fault Refusal :=
  .next ((s.blockMove .up).tick 16)

/-- `LDIR` (R1014). -/
def execLdir (s : State) : Host.Outcome State Fault Refusal :=
  let t := s.blockMove .up
  .next (t.repeatIf (t.bc != 0))

/-- `LDD` (R1015). -/
def execLdd (s : State) : Host.Outcome State Fault Refusal :=
  .next ((s.blockMove .down).tick 16)

/-- `LDDR` (R1016). -/
def execLddr (s : State) : Host.Outcome State Fault Refusal :=
  let t := s.blockMove .down
  .next (t.repeatIf (t.bc != 0))

/-- `CPI` (R1017). -/
def execCpi (s : State) : Host.Outcome State Fault Refusal :=
  .next ((s.blockSearch .up).tick 16)

/-- `CPIR` (R1018). -/
def execCpir (s : State) : Host.Outcome State Fault Refusal :=
  let t := s.blockSearch .up
  .next (t.repeatIf (t.bc != 0 && s.regs.a != s.readMem s.hl))

/-- `CPD` (R1019). -/
def execCpd (s : State) : Host.Outcome State Fault Refusal :=
  .next ((s.blockSearch .down).tick 16)

/-- `CPDR` (R1020). -/
def execCpdr (s : State) : Host.Outcome State Fault Refusal :=
  let t := s.blockSearch .down
  .next (t.repeatIf (t.bc != 0 && s.regs.a != s.readMem s.hl))

end Sys2Proof.Machine
end

