-- ==== Sys2Proof/Machine/InOut.lean ====
section
/-! DEFINITION. The meanings of the input and output group (49_io_and_cpu_control.md section 1).
In every one PC is already past the instruction (R440); the last number is its T-states (R1640). -/

namespace Sys2Proof.Machine

/-- `IN A,(n)` (R1401). -/
def execInAN (n : Byte) (s : State) : Host.Outcome State Fault Refusal :=
  .next ((s.setA (s.readPort (s.portAN n))).tick 11)

/-- `IN r,(C)` (R1402). -/
def execInRC (r : Reg8) (s : State) : Host.Outcome State Fault Refusal :=
  .next (((s.setReg r (s.readPort s.bc)).setFlags (in8 (s.readPort s.bc) s.flags.c)).tick 12)

/-- `INI` (R1403). -/
def execIni (s : State) : Host.Outcome State Fault Refusal :=
  .next ((s.blockIn .up).tick 16)

/-- `INIR` (R1404). -/
def execInir (s : State) : Host.Outcome State Fault Refusal :=
  let t := s.blockIn .up
  .next (t.repeatIf (t.regs.b != 0))

/-- `IND` (R1405). -/
def execInd (s : State) : Host.Outcome State Fault Refusal :=
  .next ((s.blockIn .down).tick 16)

/-- `INDR` (R1406). -/
def execIndr (s : State) : Host.Outcome State Fault Refusal :=
  let t := s.blockIn .down
  .next (t.repeatIf (t.regs.b != 0))

/-- `OUT (n),A` (R1407). -/
def execOutNA (n : Byte) (s : State) : Host.Outcome State Fault Refusal :=
  .next ((s.writePort (s.portAN n) s.regs.a).tick 11)

/-- `OUT (C),r` (R1408). -/
def execOutCR (r : Reg8) (s : State) : Host.Outcome State Fault Refusal :=
  .next ((s.writePort s.bc (s.reg r)).tick 12)

/-- `OUTI` (R1409). -/
def execOuti (s : State) : Host.Outcome State Fault Refusal :=
  .next ((s.blockOut .up).tick 16)

/-- `OTIR` (R1410). -/
def execOtir (s : State) : Host.Outcome State Fault Refusal :=
  let t := s.blockOut .up
  .next (t.repeatIf (t.regs.b != 0))

/-- `OUTD` (R1411). -/
def execOutd (s : State) : Host.Outcome State Fault Refusal :=
  .next ((s.blockOut .down).tick 16)

/-- `OTDR` (R1412). -/
def execOtdr (s : State) : Host.Outcome State Fault Refusal :=
  let t := s.blockOut .down
  .next (t.repeatIf (t.regs.b != 0))

end Sys2Proof.Machine
end

