-- ==== Sys2Proof/Machine/Jump.lean ====
section
/-! DEFINITION. The meanings of the jump, call and return group (48_jump_call_return.md).
In every one PC is already past the instruction (R440); the last number is its T-states (R1640). -/

namespace Sys2Proof.Machine

/-- `JP nn` (R1301). -/
def execJpNn (nn : Word) (s : State) : Host.Outcome State Fault Refusal :=
  .next ((s.setPC nn).tick 10)

/-- `JP cc,nn` (R1302). -/
def execJpCcNn (cc : Cond) (nn : Word) (s : State) : Host.Outcome State Fault Refusal :=
  .next (State.tick (if condHolds cc s.flags then s.setPC nn else s) 10)

/-- `JR e` (R1303). -/
def execJrE (e : Byte) (s : State) : Host.Outcome State Fault Refusal :=
  .next ((s.setPC (s.relative e)).tick 12)

/-- `JR C,e` (R1304). -/
def execJrC (e : Byte) (s : State) : Host.Outcome State Fault Refusal :=
  .next (s.jumpRelIf (condHolds .c s.flags) e 12 7)

/-- `JR NC,e` (R1305). -/
def execJrNc (e : Byte) (s : State) : Host.Outcome State Fault Refusal :=
  .next (s.jumpRelIf (condHolds .nc s.flags) e 12 7)

/-- `JR Z,e` (R1306). -/
def execJrZ (e : Byte) (s : State) : Host.Outcome State Fault Refusal :=
  .next (s.jumpRelIf (condHolds .z s.flags) e 12 7)

/-- `JR NZ,e` (R1307). -/
def execJrNz (e : Byte) (s : State) : Host.Outcome State Fault Refusal :=
  .next (s.jumpRelIf (condHolds .nz s.flags) e 12 7)

/-- `JP (HL)` (R1308). -/
def execJpHl (s : State) : Host.Outcome State Fault Refusal :=
  .next ((s.setPC s.hl).tick 4)

/-- `JP (IX)` (R1309). -/
def execJpIx (s : State) : Host.Outcome State Fault Refusal :=
  .next ((s.setPC s.ix).tick 8)

/-- `JP (IY)` (R1310). -/
def execJpIy (s : State) : Host.Outcome State Fault Refusal :=
  .next ((s.setPC s.iy).tick 8)

/-- `DJNZ e` (R1311). -/
def execDjnz (e : Byte) (s : State) : Host.Outcome State Fault Refusal :=
  let t := s.setB (s.regs.b - 1)
  .next (t.jumpRelIf (t.regs.b != 0) e 13 8)

/-- `CALL nn` (R1321). -/
def execCallNn (nn : Word) (s : State) : Host.Outcome State Fault Refusal :=
  .next ((s.callTo nn).tick 17)

/-- `CALL cc,nn` (R1322). -/
def execCallCcNn (cc : Cond) (nn : Word) (s : State) : Host.Outcome State Fault Refusal :=
  if condHolds cc s.flags then .next ((s.callTo nn).tick 17) else .next (s.tick 10)

/-- `RET` (R1323). -/
def execRet (s : State) : Host.Outcome State Fault Refusal :=
  .next (s.returnTo.tick 10)

/-- `RET cc` (R1324). -/
def execRetCc (cc : Cond) (s : State) : Host.Outcome State Fault Refusal :=
  if condHolds cc s.flags then .next ((s.returnTo).tick 11) else .next (s.tick 5)

/-- `RETI` (R1327). -/
def execReti (s : State) : Host.Outcome State Fault Refusal :=
  .next (s.returnTo.tick 14)

/-- `RETN` (R1328). -/
def execRetn (s : State) : Host.Outcome State Fault Refusal :=
  .next ((s.returnTo.setIff s.iff2 s.iff2).tick 14)

/-- `RST p` (R1329). -/
def execRst (t : Fin 8) (s : State) : Host.Outcome State Fault Refusal :=
  .next ((s.callTo (restartAddress t)).tick 11)

end Sys2Proof.Machine
end

