-- ==== Sys2Proof/Machine/Load16.lean ====
section
/-! DEFINITION. The meanings of the 16-bit load group with PUSH and POP (42_load16.md).
In every one PC is already past the instruction (R440); the last number is its T-states (R1640). -/

namespace Sys2Proof.Machine

/-- `LD dd,nn` (R701). -/
def execLdDdNn (dd : PairDD) (nn : Word) (s : State) : Host.Outcome State Fault Refusal :=
  .next ((s.setPairDD dd nn).tick 10)

/-- `LD IX,nn` (R702). -/
def execLdIxNn (nn : Word) (s : State) : Host.Outcome State Fault Refusal :=
  .next ((s.setIX nn).tick 14)

/-- `LD IY,nn` (R703). -/
def execLdIyNn (nn : Word) (s : State) : Host.Outcome State Fault Refusal :=
  .next ((s.setIY nn).tick 14)

/-- `LD HL,(nn)` (R704). -/
def execLdHlMem (nn : Word) (s : State) : Host.Outcome State Fault Refusal :=
  .next ((s.setHL (s.readMem16 nn)).tick 16)

/-- `LD dd,(nn)` (R705). -/
def execLdDdMem (dd : PairDD) (nn : Word) (s : State) : Host.Outcome State Fault Refusal :=
  .next ((s.setPairDD dd (s.readMem16 nn)).tick 20)

/-- `LD IX,(nn)` (R706). -/
def execLdIxMem (nn : Word) (s : State) : Host.Outcome State Fault Refusal :=
  .next ((s.setIX (s.readMem16 nn)).tick 20)

/-- `LD IY,(nn)` (R707). -/
def execLdIyMem (nn : Word) (s : State) : Host.Outcome State Fault Refusal :=
  .next ((s.setIY (s.readMem16 nn)).tick 20)

/-- `LD (nn),HL` (R708). -/
def execLdMemHl (nn : Word) (s : State) : Host.Outcome State Fault Refusal :=
  .next ((s.writeMem16 nn s.hl).tick 16)

/-- `LD (nn),dd` (R709). -/
def execLdMemDd (nn : Word) (dd : PairDD) (s : State) : Host.Outcome State Fault Refusal :=
  .next ((s.writeMem16 nn (s.pairDD dd)).tick 20)

/-- `LD (nn),IX` (R710). -/
def execLdMemIx (nn : Word) (s : State) : Host.Outcome State Fault Refusal :=
  .next ((s.writeMem16 nn s.ix).tick 20)

/-- `LD (nn),IY` (R711). -/
def execLdMemIy (nn : Word) (s : State) : Host.Outcome State Fault Refusal :=
  .next ((s.writeMem16 nn s.iy).tick 20)

/-- `LD SP,HL` (R712). -/
def execLdSpHl (s : State) : Host.Outcome State Fault Refusal :=
  .next ((s.setSP s.hl).tick 6)

/-- `LD SP,IX` (R713). -/
def execLdSpIx (s : State) : Host.Outcome State Fault Refusal :=
  .next ((s.setSP s.ix).tick 10)

/-- `LD SP,IY` (R714). -/
def execLdSpIy (s : State) : Host.Outcome State Fault Refusal :=
  .next ((s.setSP s.iy).tick 10)

/-- `PUSH qq` (R715). -/
def execPushQq (qq : PairQQ) (s : State) : Host.Outcome State Fault Refusal :=
  .next ((s.push16 (s.pairQQ qq)).tick 11)

/-- `PUSH IX` (R716). -/
def execPushIx (s : State) : Host.Outcome State Fault Refusal :=
  .next ((s.push16 s.ix).tick 15)

/-- `PUSH IY` (R717). -/
def execPushIy (s : State) : Host.Outcome State Fault Refusal :=
  .next ((s.push16 s.iy).tick 15)

/-- `POP qq` (R718). -/
def execPopQq (qq : PairQQ) (s : State) : Host.Outcome State Fault Refusal :=
  .next ((s.dropTop.setPairQQ qq s.stackTop).tick 10)

/-- `POP IX` (R719). -/
def execPopIx (s : State) : Host.Outcome State Fault Refusal :=
  .next ((s.dropTop.setIX s.stackTop).tick 14)

/-- `POP IY` (R720). -/
def execPopIy (s : State) : Host.Outcome State Fault Refusal :=
  .next ((s.dropTop.setIY s.stackTop).tick 14)

end Sys2Proof.Machine
end

