-- ==== Sys2Proof/Machine/Load8.lean ====
section
/-! DEFINITION. The meanings of the 8-bit load group (41_load8.md).
In every one PC is already past the instruction (R440); the last number is its T-states (R1640). -/

namespace Sys2Proof.Machine

/-- `LD r,r'` (R601). -/
def execLdRR (r : Reg8) (r' : Reg8) (s : State) : Host.Outcome State Fault Refusal :=
  .next ((s.setReg r (s.reg r')).tick 4)

/-- `LD r,n` (R602). -/
def execLdRN (r : Reg8) (n : Byte) (s : State) : Host.Outcome State Fault Refusal :=
  .next ((s.setReg r n).tick 7)

/-- `LD r,(HL)` (R603). -/
def execLdRHl (r : Reg8) (s : State) : Host.Outcome State Fault Refusal :=
  .next ((s.setReg r (Loc8.hl.read s)).tick 7)

/-- `LD r,(IX+d)` (R604). -/
def execLdRIxD (r : Reg8) (d : Byte) (s : State) : Host.Outcome State Fault Refusal :=
  .next ((s.setReg r ((Loc8.ix d).read s)).tick 19)

/-- `LD r,(IY+d)` (R605). -/
def execLdRIyD (r : Reg8) (d : Byte) (s : State) : Host.Outcome State Fault Refusal :=
  .next ((s.setReg r ((Loc8.iy d).read s)).tick 19)

/-- `LD (HL),r` (R606). -/
def execLdHlR (r : Reg8) (s : State) : Host.Outcome State Fault Refusal :=
  .next ((Loc8.hl.write (s.reg r) s).tick 7)

/-- `LD (IX+d),r` (R607). -/
def execLdIxDR (d : Byte) (r : Reg8) (s : State) : Host.Outcome State Fault Refusal :=
  .next (((Loc8.ix d).write (s.reg r) s).tick 19)

/-- `LD (IY+d),r` (R608). -/
def execLdIyDR (d : Byte) (r : Reg8) (s : State) : Host.Outcome State Fault Refusal :=
  .next (((Loc8.iy d).write (s.reg r) s).tick 19)

/-- `LD (HL),n` (R609). -/
def execLdHlN (n : Byte) (s : State) : Host.Outcome State Fault Refusal :=
  .next ((Loc8.hl.write n s).tick 10)

/-- `LD (IX+d),n` (R610). -/
def execLdIxDN (d : Byte) (n : Byte) (s : State) : Host.Outcome State Fault Refusal :=
  .next (((Loc8.ix d).write n s).tick 19)

/-- `LD (IY+d),n` (R611). -/
def execLdIyDN (d : Byte) (n : Byte) (s : State) : Host.Outcome State Fault Refusal :=
  .next (((Loc8.iy d).write n s).tick 19)

/-- `LD A,(BC)` (R612). -/
def execLdABc (s : State) : Host.Outcome State Fault Refusal :=
  .next ((s.setA (s.readMem s.bc)).tick 7)

/-- `LD A,(DE)` (R613). -/
def execLdADe (s : State) : Host.Outcome State Fault Refusal :=
  .next ((s.setA (s.readMem s.de)).tick 7)

/-- `LD A,(nn)` (R614). -/
def execLdANn (nn : Word) (s : State) : Host.Outcome State Fault Refusal :=
  .next ((s.setA (s.readMem nn)).tick 13)

/-- `LD (BC),A` (R615). -/
def execLdBcA (s : State) : Host.Outcome State Fault Refusal :=
  .next ((s.writeMem s.bc s.regs.a).tick 7)

/-- `LD (DE),A` (R616). -/
def execLdDeA (s : State) : Host.Outcome State Fault Refusal :=
  .next ((s.writeMem s.de s.regs.a).tick 7)

/-- `LD (nn),A` (R617). -/
def execLdNnA (nn : Word) (s : State) : Host.Outcome State Fault Refusal :=
  .next ((s.writeMem nn s.regs.a).tick 13)

/-- `LD A,I` (R618). -/
def execLdAI (s : State) : Host.Outcome State Fault Refusal :=
  .next (((s.setA s.i).setFlags (loadSpecialFlags s.i s.iff2 s.flags)).tick 9)

/-- `LD A,R` (R619). -/
def execLdAR (s : State) : Host.Outcome State Fault Refusal :=
  .next (((s.setA s.r).setFlags (loadSpecialFlags s.r s.iff2 s.flags)).tick 9)

/-- `LD I,A` (R620). -/
def execLdIA (s : State) : Host.Outcome State Fault Refusal :=
  .next ((s.setI s.regs.a).tick 9)

/-- `LD R,A` (R621). -/
def execLdRA (s : State) : Host.Outcome State Fault Refusal :=
  .next ((s.setR s.regs.a).tick 9)

end Sys2Proof.Machine
end

