-- ==== Sys2Proof/Machine/Rotate.lean ====
section
/-! DEFINITION. The meanings of the rotate and shift group (46_rotate_shift.md).
In every one PC is already past the instruction (R440); the last number is its T-states (R1640). -/

namespace Sys2Proof.Machine

/-- `RLCA` (R1101). -/
def execRlca (s : State) : Host.Outcome State Fault Refusal :=
  .next ((s.rotA .rlc).tick 4)

/-- `RLA` (R1102). -/
def execRla (s : State) : Host.Outcome State Fault Refusal :=
  .next ((s.rotA .rl).tick 4)

/-- `RRCA` (R1103). -/
def execRrca (s : State) : Host.Outcome State Fault Refusal :=
  .next ((s.rotA .rrc).tick 4)

/-- `RRA` (R1104). -/
def execRra (s : State) : Host.Outcome State Fault Refusal :=
  .next ((s.rotA .rr).tick 4)

/-- `RLC r` (R1105). -/
def execRlcR (r : Reg8) (s : State) : Host.Outcome State Fault Refusal :=
  .next ((s.rotLoc .rlc (.reg r)).tick 8)

/-- `RLC (HL)` (R1106). -/
def execRlcHl (s : State) : Host.Outcome State Fault Refusal :=
  .next ((s.rotLoc .rlc .hl).tick 15)

/-- `RLC (IX+d)` (R1107). -/
def execRlcIxD (d : Byte) (s : State) : Host.Outcome State Fault Refusal :=
  .next ((s.rotLoc .rlc (.ix d)).tick 23)

/-- `RLC (IY+d)` (R1108). -/
def execRlcIyD (d : Byte) (s : State) : Host.Outcome State Fault Refusal :=
  .next ((s.rotLoc .rlc (.iy d)).tick 23)

/-- `RL r` (R1109). -/
def execRlR (r : Reg8) (s : State) : Host.Outcome State Fault Refusal :=
  .next ((s.rotLoc .rl (.reg r)).tick 8)

/-- `RL (HL)` (R1110). -/
def execRlHl (s : State) : Host.Outcome State Fault Refusal :=
  .next ((s.rotLoc .rl .hl).tick 15)

/-- `RL (IX+d)` (R1111). -/
def execRlIxD (d : Byte) (s : State) : Host.Outcome State Fault Refusal :=
  .next ((s.rotLoc .rl (.ix d)).tick 23)

/-- `RL (IY+d)` (R1112). -/
def execRlIyD (d : Byte) (s : State) : Host.Outcome State Fault Refusal :=
  .next ((s.rotLoc .rl (.iy d)).tick 23)

/-- `RRC r` (R1113). -/
def execRrcR (r : Reg8) (s : State) : Host.Outcome State Fault Refusal :=
  .next ((s.rotLoc .rrc (.reg r)).tick 8)

/-- `RRC (HL)` (R1114). -/
def execRrcHl (s : State) : Host.Outcome State Fault Refusal :=
  .next ((s.rotLoc .rrc .hl).tick 15)

/-- `RRC (IX+d)` (R1115). -/
def execRrcIxD (d : Byte) (s : State) : Host.Outcome State Fault Refusal :=
  .next ((s.rotLoc .rrc (.ix d)).tick 23)

/-- `RRC (IY+d)` (R1116). -/
def execRrcIyD (d : Byte) (s : State) : Host.Outcome State Fault Refusal :=
  .next ((s.rotLoc .rrc (.iy d)).tick 23)

/-- `RR r` (R1117). -/
def execRrR (r : Reg8) (s : State) : Host.Outcome State Fault Refusal :=
  .next ((s.rotLoc .rr (.reg r)).tick 8)

/-- `RR (HL)` (R1118). -/
def execRrHl (s : State) : Host.Outcome State Fault Refusal :=
  .next ((s.rotLoc .rr .hl).tick 15)

/-- `RR (IX+d)` (R1119). -/
def execRrIxD (d : Byte) (s : State) : Host.Outcome State Fault Refusal :=
  .next ((s.rotLoc .rr (.ix d)).tick 23)

/-- `RR (IY+d)` (R1120). -/
def execRrIyD (d : Byte) (s : State) : Host.Outcome State Fault Refusal :=
  .next ((s.rotLoc .rr (.iy d)).tick 23)

/-- `SLA r` (R1121). -/
def execSlaR (r : Reg8) (s : State) : Host.Outcome State Fault Refusal :=
  .next ((s.rotLoc .sla (.reg r)).tick 8)

/-- `SLA (HL)` (R1122). -/
def execSlaHl (s : State) : Host.Outcome State Fault Refusal :=
  .next ((s.rotLoc .sla .hl).tick 15)

/-- `SLA (IX+d)` (R1123). -/
def execSlaIxD (d : Byte) (s : State) : Host.Outcome State Fault Refusal :=
  .next ((s.rotLoc .sla (.ix d)).tick 23)

/-- `SLA (IY+d)` (R1124). -/
def execSlaIyD (d : Byte) (s : State) : Host.Outcome State Fault Refusal :=
  .next ((s.rotLoc .sla (.iy d)).tick 23)

/-- `SRA r` (R1125). -/
def execSraR (r : Reg8) (s : State) : Host.Outcome State Fault Refusal :=
  .next ((s.rotLoc .sra (.reg r)).tick 8)

/-- `SRA (HL)` (R1126). -/
def execSraHl (s : State) : Host.Outcome State Fault Refusal :=
  .next ((s.rotLoc .sra .hl).tick 15)

/-- `SRA (IX+d)` (R1127). -/
def execSraIxD (d : Byte) (s : State) : Host.Outcome State Fault Refusal :=
  .next ((s.rotLoc .sra (.ix d)).tick 23)

/-- `SRA (IY+d)` (R1128). -/
def execSraIyD (d : Byte) (s : State) : Host.Outcome State Fault Refusal :=
  .next ((s.rotLoc .sra (.iy d)).tick 23)

/-- `SRL r` (R1129). -/
def execSrlR (r : Reg8) (s : State) : Host.Outcome State Fault Refusal :=
  .next ((s.rotLoc .srl (.reg r)).tick 8)

/-- `SRL (HL)` (R1130). -/
def execSrlHl (s : State) : Host.Outcome State Fault Refusal :=
  .next ((s.rotLoc .srl .hl).tick 15)

/-- `SRL (IX+d)` (R1131). -/
def execSrlIxD (d : Byte) (s : State) : Host.Outcome State Fault Refusal :=
  .next ((s.rotLoc .srl (.ix d)).tick 23)

/-- `SRL (IY+d)` (R1132). -/
def execSrlIyD (d : Byte) (s : State) : Host.Outcome State Fault Refusal :=
  .next ((s.rotLoc .srl (.iy d)).tick 23)

/-- `RLD` (R1133). -/
def execRld (s : State) : Host.Outcome State Fault Refusal :=
  let m := s.readMem s.hl
  let a := s.regs.a.extractLsb' 4 4 ++ m.extractLsb' 4 4
  let m' := m.extractLsb' 0 4 ++ s.regs.a.extractLsb' 0 4
  .next ((((s.writeMem s.hl m').setA a).setFlags (rxd a s.flags.c)).tick 18)

/-- `RRD` (R1134). -/
def execRrd (s : State) : Host.Outcome State Fault Refusal :=
  let m := s.readMem s.hl
  let a := s.regs.a.extractLsb' 4 4 ++ m.extractLsb' 0 4
  let m' := s.regs.a.extractLsb' 0 4 ++ m.extractLsb' 4 4
  .next ((((s.writeMem s.hl m').setA a).setFlags (rxd a s.flags.c)).tick 18)

end Sys2Proof.Machine
end

