-- ==== Sys2Proof/Machine/Unimplemented.lean ====
section
/-! DEFINITION. The meanings of the unimplemented encodings (30_encoding.md R450 to R453): each raises the one event of the core.
In every one PC is already past the instruction (R440); the step reports no T-states (R1640). -/

namespace Sys2Proof.Machine

/-- (unimplemented: CB 30..37, SLL on silicon) (R451). -/
def execUnimplCb (z : Fin 8) (s : State) : Host.Outcome State Fault Refusal :=
  .next (s.raiseUnimplemented (encode (.unimplCb z)))

/-- (unimplemented: ED second byte not in rule R432) (R451). -/
def execUnimplEd (op : Byte) (s : State) : Host.Outcome State Fault Refusal :=
  .next (s.raiseUnimplemented (encode (.unimplEd op)))

/-- (unimplemented: DD second byte not in rule R433 and not CB) (R452). -/
def execUnimplDd (op : Byte) (s : State) : Host.Outcome State Fault Refusal :=
  .next (s.raiseUnimplemented (encode (.unimplDd op)))

/-- (unimplemented: FD second byte not in rule R433 and not CB) (R452). -/
def execUnimplFd (op : Byte) (s : State) : Host.Outcome State Fault Refusal :=
  .next (s.raiseUnimplemented (encode (.unimplFd op)))

/-- (unimplemented: DD CB d op with z != 110, and DD CB d 36) (R453). -/
def execUnimplDdCb (d : Byte) (op : Byte) (s : State) : Host.Outcome State Fault Refusal :=
  .next (s.raiseUnimplemented (encode (.unimplDdCb d op)))

/-- (unimplemented: FD CB d op with z != 110, and FD CB d 36) (R453). -/
def execUnimplFdCb (d : Byte) (op : Byte) (s : State) : Host.Outcome State Fault Refusal :=
  .next (s.raiseUnimplemented (encode (.unimplFdCb d op)))

end Sys2Proof.Machine
end

