-- ==== Sys2Proof/Machine/Dispatch.lean ====
section
/-! DEFINITION. From an instruction to its meaning: one arm per constructor of Instr. -/

namespace Sys2Proof.Machine

def exec (i : Instr) (s : State) : Host.Outcome State Fault Refusal :=
  match i with
  -- the 8-bit load group (41_load8.md)
  | .ldRR r r' => Sys2Proof.Machine.execLdRR r r' s
  | .ldRN r n => Sys2Proof.Machine.execLdRN r n s
  | .ldRHl r => Sys2Proof.Machine.execLdRHl r s
  | .ldRIxD r d => Sys2Proof.Machine.execLdRIxD r d s
  | .ldRIyD r d => Sys2Proof.Machine.execLdRIyD r d s
  | .ldHlR r => Sys2Proof.Machine.execLdHlR r s
  | .ldIxDR d r => Sys2Proof.Machine.execLdIxDR d r s
  | .ldIyDR d r => Sys2Proof.Machine.execLdIyDR d r s
  | .ldHlN n => Sys2Proof.Machine.execLdHlN n s
  | .ldIxDN d n => Sys2Proof.Machine.execLdIxDN d n s
  | .ldIyDN d n => Sys2Proof.Machine.execLdIyDN d n s
  | .ldABc => Sys2Proof.Machine.execLdABc s
  | .ldADe => Sys2Proof.Machine.execLdADe s
  | .ldANn nn => Sys2Proof.Machine.execLdANn nn s
  | .ldBcA => Sys2Proof.Machine.execLdBcA s
  | .ldDeA => Sys2Proof.Machine.execLdDeA s
  | .ldNnA nn => Sys2Proof.Machine.execLdNnA nn s
  | .ldAI => Sys2Proof.Machine.execLdAI s
  | .ldAR => Sys2Proof.Machine.execLdAR s
  | .ldIA => Sys2Proof.Machine.execLdIA s
  | .ldRA => Sys2Proof.Machine.execLdRA s
  -- the 16-bit load group with PUSH and POP (42_load16.md)
  | .ldDdNn dd nn => Sys2Proof.Machine.execLdDdNn dd nn s
  | .ldIxNn nn => Sys2Proof.Machine.execLdIxNn nn s
  | .ldIyNn nn => Sys2Proof.Machine.execLdIyNn nn s
  | .ldHlMem nn => Sys2Proof.Machine.execLdHlMem nn s
  | .ldDdMem dd nn => Sys2Proof.Machine.execLdDdMem dd nn s
  | .ldIxMem nn => Sys2Proof.Machine.execLdIxMem nn s
  | .ldIyMem nn => Sys2Proof.Machine.execLdIyMem nn s
  | .ldMemHl nn => Sys2Proof.Machine.execLdMemHl nn s
  | .ldMemDd nn dd => Sys2Proof.Machine.execLdMemDd nn dd s
  | .ldMemIx nn => Sys2Proof.Machine.execLdMemIx nn s
  | .ldMemIy nn => Sys2Proof.Machine.execLdMemIy nn s
  | .ldSpHl => Sys2Proof.Machine.execLdSpHl s
  | .ldSpIx => Sys2Proof.Machine.execLdSpIx s
  | .ldSpIy => Sys2Proof.Machine.execLdSpIy s
  | .pushQq qq => Sys2Proof.Machine.execPushQq qq s
  | .pushIx => Sys2Proof.Machine.execPushIx s
  | .pushIy => Sys2Proof.Machine.execPushIy s
  | .popQq qq => Sys2Proof.Machine.execPopQq qq s
  | .popIx => Sys2Proof.Machine.execPopIx s
  | .popIy => Sys2Proof.Machine.execPopIy s
  -- the 8-bit arithmetic and logic group (43_arith8.md)
  | .addAR r => Sys2Proof.Machine.execAddAR r s
  | .addAN n => Sys2Proof.Machine.execAddAN n s
  | .addAHl => Sys2Proof.Machine.execAddAHl s
  | .addAIxD d => Sys2Proof.Machine.execAddAIxD d s
  | .addAIyD d => Sys2Proof.Machine.execAddAIyD d s
  | .adcAR r => Sys2Proof.Machine.execAdcAR r s
  | .adcAN n => Sys2Proof.Machine.execAdcAN n s
  | .adcAHl => Sys2Proof.Machine.execAdcAHl s
  | .adcAIxD d => Sys2Proof.Machine.execAdcAIxD d s
  | .adcAIyD d => Sys2Proof.Machine.execAdcAIyD d s
  | .subR r => Sys2Proof.Machine.execSubR r s
  | .subN n => Sys2Proof.Machine.execSubN n s
  | .subHl => Sys2Proof.Machine.execSubHl s
  | .subIxD d => Sys2Proof.Machine.execSubIxD d s
  | .subIyD d => Sys2Proof.Machine.execSubIyD d s
  | .sbcAR r => Sys2Proof.Machine.execSbcAR r s
  | .sbcAN n => Sys2Proof.Machine.execSbcAN n s
  | .sbcAHl => Sys2Proof.Machine.execSbcAHl s
  | .sbcAIxD d => Sys2Proof.Machine.execSbcAIxD d s
  | .sbcAIyD d => Sys2Proof.Machine.execSbcAIyD d s
  | .andR r => Sys2Proof.Machine.execAndR r s
  | .andN n => Sys2Proof.Machine.execAndN n s
  | .andHl => Sys2Proof.Machine.execAndHl s
  | .andIxD d => Sys2Proof.Machine.execAndIxD d s
  | .andIyD d => Sys2Proof.Machine.execAndIyD d s
  | .orR r => Sys2Proof.Machine.execOrR r s
  | .orN n => Sys2Proof.Machine.execOrN n s
  | .orHl => Sys2Proof.Machine.execOrHl s
  | .orIxD d => Sys2Proof.Machine.execOrIxD d s
  | .orIyD d => Sys2Proof.Machine.execOrIyD d s
  | .xorR r => Sys2Proof.Machine.execXorR r s
  | .xorN n => Sys2Proof.Machine.execXorN n s
  | .xorHl => Sys2Proof.Machine.execXorHl s
  | .xorIxD d => Sys2Proof.Machine.execXorIxD d s
  | .xorIyD d => Sys2Proof.Machine.execXorIyD d s
  | .cpR r => Sys2Proof.Machine.execCpR r s
  | .cpN n => Sys2Proof.Machine.execCpN n s
  | .cpHl => Sys2Proof.Machine.execCpHl s
  | .cpIxD d => Sys2Proof.Machine.execCpIxD d s
  | .cpIyD d => Sys2Proof.Machine.execCpIyD d s
  | .incR r => Sys2Proof.Machine.execIncR r s
  | .incHl => Sys2Proof.Machine.execIncHl s
  | .incIxD d => Sys2Proof.Machine.execIncIxD d s
  | .incIyD d => Sys2Proof.Machine.execIncIyD d s
  | .decR r => Sys2Proof.Machine.execDecR r s
  | .decHl => Sys2Proof.Machine.execDecHl s
  | .decIxD d => Sys2Proof.Machine.execDecIxD d s
  | .decIyD d => Sys2Proof.Machine.execDecIyD d s
  -- the 16-bit arithmetic group (44_arith16.md)
  | .addHlSs ss => Sys2Proof.Machine.execAddHlSs ss s
  | .adcHlSs ss => Sys2Proof.Machine.execAdcHlSs ss s
  | .sbcHlSs ss => Sys2Proof.Machine.execSbcHlSs ss s
  | .addIxPp pp => Sys2Proof.Machine.execAddIxPp pp s
  | .addIyRr rr => Sys2Proof.Machine.execAddIyRr rr s
  | .incSs ss => Sys2Proof.Machine.execIncSs ss s
  | .incIx => Sys2Proof.Machine.execIncIx s
  | .incIy => Sys2Proof.Machine.execIncIy s
  | .decSs ss => Sys2Proof.Machine.execDecSs ss s
  | .decIx => Sys2Proof.Machine.execDecIx s
  | .decIy => Sys2Proof.Machine.execDecIy s
  -- the exchange, block transfer and block search group (45_exchange_block_search.md)
  | .exDeHl => Sys2Proof.Machine.execExDeHl s
  | .exAfAf => Sys2Proof.Machine.execExAfAf s
  | .exx => Sys2Proof.Machine.execExx s
  | .exSpHl => Sys2Proof.Machine.execExSpHl s
  | .exSpIx => Sys2Proof.Machine.execExSpIx s
  | .exSpIy => Sys2Proof.Machine.execExSpIy s
  | .ldi => Sys2Proof.Machine.execLdi s
  | .ldir => Sys2Proof.Machine.execLdir s
  | .ldd => Sys2Proof.Machine.execLdd s
  | .lddr => Sys2Proof.Machine.execLddr s
  | .cpi => Sys2Proof.Machine.execCpi s
  | .cpir => Sys2Proof.Machine.execCpir s
  | .cpd => Sys2Proof.Machine.execCpd s
  | .cpdr => Sys2Proof.Machine.execCpdr s
  -- the rotate and shift group (46_rotate_shift.md)
  | .rlca => Sys2Proof.Machine.execRlca s
  | .rla => Sys2Proof.Machine.execRla s
  | .rrca => Sys2Proof.Machine.execRrca s
  | .rra => Sys2Proof.Machine.execRra s
  | .rlcR r => Sys2Proof.Machine.execRlcR r s
  | .rlcHl => Sys2Proof.Machine.execRlcHl s
  | .rlcIxD d => Sys2Proof.Machine.execRlcIxD d s
  | .rlcIyD d => Sys2Proof.Machine.execRlcIyD d s
  | .rlR r => Sys2Proof.Machine.execRlR r s
  | .rlHl => Sys2Proof.Machine.execRlHl s
  | .rlIxD d => Sys2Proof.Machine.execRlIxD d s
  | .rlIyD d => Sys2Proof.Machine.execRlIyD d s
  | .rrcR r => Sys2Proof.Machine.execRrcR r s
  | .rrcHl => Sys2Proof.Machine.execRrcHl s
  | .rrcIxD d => Sys2Proof.Machine.execRrcIxD d s
  | .rrcIyD d => Sys2Proof.Machine.execRrcIyD d s
  | .rrR r => Sys2Proof.Machine.execRrR r s
  | .rrHl => Sys2Proof.Machine.execRrHl s
  | .rrIxD d => Sys2Proof.Machine.execRrIxD d s
  | .rrIyD d => Sys2Proof.Machine.execRrIyD d s
  | .slaR r => Sys2Proof.Machine.execSlaR r s
  | .slaHl => Sys2Proof.Machine.execSlaHl s
  | .slaIxD d => Sys2Proof.Machine.execSlaIxD d s
  | .slaIyD d => Sys2Proof.Machine.execSlaIyD d s
  | .sraR r => Sys2Proof.Machine.execSraR r s
  | .sraHl => Sys2Proof.Machine.execSraHl s
  | .sraIxD d => Sys2Proof.Machine.execSraIxD d s
  | .sraIyD d => Sys2Proof.Machine.execSraIyD d s
  | .srlR r => Sys2Proof.Machine.execSrlR r s
  | .srlHl => Sys2Proof.Machine.execSrlHl s
  | .srlIxD d => Sys2Proof.Machine.execSrlIxD d s
  | .srlIyD d => Sys2Proof.Machine.execSrlIyD d s
  | .rld => Sys2Proof.Machine.execRld s
  | .rrd => Sys2Proof.Machine.execRrd s
  -- the bit set, reset and test group (47_bit.md)
  | .bitR b r => Sys2Proof.Machine.execBitR b r s
  | .bitHl b => Sys2Proof.Machine.execBitHl b s
  | .bitIxD b d => Sys2Proof.Machine.execBitIxD b d s
  | .bitIyD b d => Sys2Proof.Machine.execBitIyD b d s
  | .setR b r => Sys2Proof.Machine.execSetR b r s
  | .setHl b => Sys2Proof.Machine.execSetHl b s
  | .setIxD b d => Sys2Proof.Machine.execSetIxD b d s
  | .setIyD b d => Sys2Proof.Machine.execSetIyD b d s
  | .resR b r => Sys2Proof.Machine.execResR b r s
  | .resHl b => Sys2Proof.Machine.execResHl b s
  | .resIxD b d => Sys2Proof.Machine.execResIxD b d s
  | .resIyD b d => Sys2Proof.Machine.execResIyD b d s
  -- the jump, call and return group (48_jump_call_return.md)
  | .jpNn nn => Sys2Proof.Machine.execJpNn nn s
  | .jpCcNn cc nn => Sys2Proof.Machine.execJpCcNn cc nn s
  | .jrE e => Sys2Proof.Machine.execJrE e s
  | .jrC e => Sys2Proof.Machine.execJrC e s
  | .jrNc e => Sys2Proof.Machine.execJrNc e s
  | .jrZ e => Sys2Proof.Machine.execJrZ e s
  | .jrNz e => Sys2Proof.Machine.execJrNz e s
  | .jpHl => Sys2Proof.Machine.execJpHl s
  | .jpIx => Sys2Proof.Machine.execJpIx s
  | .jpIy => Sys2Proof.Machine.execJpIy s
  | .djnz e => Sys2Proof.Machine.execDjnz e s
  | .callNn nn => Sys2Proof.Machine.execCallNn nn s
  | .callCcNn cc nn => Sys2Proof.Machine.execCallCcNn cc nn s
  | .ret => Sys2Proof.Machine.execRet s
  | .retCc cc => Sys2Proof.Machine.execRetCc cc s
  | .reti => Sys2Proof.Machine.execReti s
  | .retn => Sys2Proof.Machine.execRetn s
  | .rst t => Sys2Proof.Machine.execRst t s
  -- the input and output group (49_io_and_cpu_control.md section 1)
  | .inAN n => Sys2Proof.Machine.execInAN n s
  | .inRC r => Sys2Proof.Machine.execInRC r s
  | .ini => Sys2Proof.Machine.execIni s
  | .inir => Sys2Proof.Machine.execInir s
  | .ind => Sys2Proof.Machine.execInd s
  | .indr => Sys2Proof.Machine.execIndr s
  | .outNA n => Sys2Proof.Machine.execOutNA n s
  | .outCR r => Sys2Proof.Machine.execOutCR r s
  | .outi => Sys2Proof.Machine.execOuti s
  | .otir => Sys2Proof.Machine.execOtir s
  | .outd => Sys2Proof.Machine.execOutd s
  | .otdr => Sys2Proof.Machine.execOtdr s
  -- the general-purpose arithmetic and CPU control group (49_io_and_cpu_control.md section 2)
  | .daa => Sys2Proof.Machine.execDaa s
  | .cpl => Sys2Proof.Machine.execCpl s
  | .neg => Sys2Proof.Machine.execNeg s
  | .ccf => Sys2Proof.Machine.execCcf s
  | .scf => Sys2Proof.Machine.execScf s
  | .nop => Sys2Proof.Machine.execNop s
  | .halt => Sys2Proof.Machine.execHalt s
  | .di => Sys2Proof.Machine.execDi s
  | .ei => Sys2Proof.Machine.execEi s
  | .im0 => Sys2Proof.Machine.execIm0 s
  | .im1 => Sys2Proof.Machine.execIm1 s
  | .im2 => Sys2Proof.Machine.execIm2 s
  -- the unimplemented encodings (30_encoding.md R450 to R453): each raises the one event of the core
  | .unimplCb z => Sys2Proof.Machine.execUnimplCb z s
  | .unimplEd op => Sys2Proof.Machine.execUnimplEd op s
  | .unimplDd op => Sys2Proof.Machine.execUnimplDd op s
  | .unimplFd op => Sys2Proof.Machine.execUnimplFd op s
  | .unimplDdCb d op => Sys2Proof.Machine.execUnimplDdCb d op s
  | .unimplFdCb d op => Sys2Proof.Machine.execUnimplFdCb d op s

end Sys2Proof.Machine
end

