-- ==== Sys2Proof/Machine/Step.lean ====
section
/-! DEFINITION. One step of the core (R440, R1530, R1531), and where the host's next word is fetched. -/

namespace Sys2Proof.Machine

/-- In the halt state, nothing (R1531). Otherwise decode the bytes at PC and run the instruction, with PC
already past its bytes (R440, R1530). Log entries 6 and 8. -/
def step (s : State) : Host.Outcome State Fault Refusal :=
  if s.halt then .next s.idle
  else
    match decode s.fetchWindow with
    | .instr i rest => exec i (s.beginInstr (fetchedLength rest))
    | .rejected _ => .fault .undecodable

/-- `s` with the instruction whose bits are `w` (numbered as spec/opcode_table.json numbers them) stored
at PC and followed by zeros, and out of the halt state, in which nothing is fetched. Log entry 7. -/
def State.withFetchWord (s : State) (nbits w : Nat) : State :=
  { s.storeBytes s.pc (tableBytes nbits w) with halt := false }

end Sys2Proof.Machine
end

