-- ==== Sys2Proof/Machine/HostOps.lean ====
section
/-! DEFINITION. What the host can do to the core between steps (R331, R332, R1524, R1530, R1600), and the
register file's access contract (R203). `step` uses none of it: whether and when the host acts is the
parameter `host_actions` (U6; log entry 9). -/

namespace Sys2Proof.Machine

/-! ### The register file by name (R203, R207) -/

/-- The 8-bit names of a register set. -/
inductive RegName where
  | a | f | b | c | d | e | h | l
deriving DecidableEq, Repr

/-- The 16-bit pair names of a register set. -/
inductive PairName where
  | af | bc | de | hl
deriving DecidableEq, Repr

/-- The halves of the index registers, which have no shadow copy (R207). -/
inductive IndexHalf where
  | ixh | ixl | iyh | iyl
deriving DecidableEq, Repr

def RegSet.byName (rs : RegSet) (n : RegName) : Byte :=
  match n with
  | .a => rs.a
  | .f => rs.f
  | .b => rs.b
  | .c => rs.c
  | .d => rs.d
  | .e => rs.e
  | .h => rs.h
  | .l => rs.l

def RegSet.setByName (rs : RegSet) (n : RegName) (v : Byte) : RegSet :=
  match n with
  | .a => { rs with a := v }
  | .f => { rs with f := v }
  | .b => { rs with b := v }
  | .c => { rs with c := v }
  | .d => { rs with d := v }
  | .e => { rs with e := v }
  | .h => { rs with h := v }
  | .l => { rs with l := v }

def RegSet.pairByName (rs : RegSet) (n : PairName) : Word :=
  match n with
  | .af => rs.af
  | .bc => rs.bc
  | .de => rs.de
  | .hl => rs.hl

def RegSet.setPairByName (rs : RegSet) (n : PairName) (v : Word) : RegSet :=
  match n with
  | .af => rs.setAF v
  | .bc => rs.setBC v
  | .de => rs.setDE v
  | .hl => rs.setHL v

/-- The set that `alt` selects. -/
def State.regSet (s : State) (alt : Bool) : RegSet := if alt then s.shadow else s.regs

/-- Apply a change to the set that `alt` selects. -/
def State.setRegSet (s : State) (alt : Bool) (rs : RegSet) : State :=
  if alt then { s with shadow := rs } else { s with regs := rs }

/-- `get(reg, alt)` of R203, for an 8-bit name. -/
def State.getReg (s : State) (n : RegName) (alt : Bool) : Byte := (s.regSet alt).byName n

/-- `set(reg, value, alt)` of R203, for an 8-bit name. -/
def State.presetReg (s : State) (n : RegName) (alt : Bool) (v : Byte) : State :=
  s.setRegSet alt ((s.regSet alt).setByName n v)

/-- `get(reg, alt)` of R203, for a pair name. -/
def State.getPair (s : State) (n : PairName) (alt : Bool) : Word := (s.regSet alt).pairByName n

/-- `set(reg, value, alt)` of R203, for a pair name. -/
def State.presetPair (s : State) (n : PairName) (alt : Bool) (v : Word) : State :=
  s.setRegSet alt ((s.regSet alt).setPairByName n v)

/-- The halves of IX and IY, views over the 16-bit registers (R207). -/
def State.getIndexHalf (s : State) (n : IndexHalf) : Byte :=
  match n with
  | .ixh => hiByte s.ix
  | .ixl => loByte s.ix
  | .iyh => hiByte s.iy
  | .iyl => loByte s.iy

def State.presetIndexHalf (s : State) (n : IndexHalf) (v : Byte) : State :=
  match n with
  | .ixh => s.setIX (joinBytes v (loByte s.ix))
  | .ixl => s.setIX (joinBytes (hiByte s.ix) v)
  | .iyh => s.setIY (joinBytes v (loByte s.iy))
  | .iyl => s.setIY (joinBytes (hiByte s.iy) v)

/-! ### The host's actions -/

/-- `load(bytes, address)` (R331): into Mem, in increasing order, wrapping; nothing else changes. -/
def State.load (s : State) (bytes : List Byte) (addr : Word) : State := s.storeBytes addr bytes

/-- Reset of a machine that may be in the middle of a run (R1600): every piece of the spec's state as
`State.resetWith` has it. The free flag bits go on being numbered where they were, because each execution
makes a fresh choice (U1, U2), after a reset too. Log entry 3. -/
def State.hostReset (s : State) (draw : ResetDraw) : State := { State.resetWith draw with draws := s.draws }

/-- An action of the host between two steps: it can preset all state (R1524). HALT can be preset to 1, but
not cleared, and unimpl_seen has no preset: only reset clears them (R224, R1502). DIAG is an output (R1501).
Log entry 9. -/
inductive HostAction where
  | reset (draw : ResetDraw)
  | load (bytes : List Byte) (addr : Word)
  | pokeMem (addr : Word) (v : Byte)
  | pokePort (addr : Word) (v : Byte)
  | presetReg (n : RegName) (alt : Bool) (v : Byte)
  | presetPair (n : PairName) (alt : Bool) (v : Word)
  | presetIndexHalf (n : IndexHalf) (v : Byte)
  | presetIX (v : Word)
  | presetIY (v : Word)
  | presetSP (v : Word)
  | presetPC (v : Word)
  | presetI (v : Byte)
  | presetR (v : Byte)
  | presetIff (iff1 iff2 : Bool)
  | presetIM (m : IntMode)
  | presetHalt
  | presetTCycles (n : Nat)
deriving DecidableEq, Repr

def State.applyHost (s : State) (act : HostAction) : State :=
  match act with
  | .reset draw => s.hostReset draw
  | .load bytes addr => s.load bytes addr
  | .pokeMem addr v => s.writeMem addr v
  | .pokePort addr v => s.writePort addr v
  | .presetReg n alt v => s.presetReg n alt v
  | .presetPair n alt v => s.presetPair n alt v
  | .presetIndexHalf n v => s.presetIndexHalf n v
  | .presetIX v => s.setIX v
  | .presetIY v => s.setIY v
  | .presetSP v => s.setSP v
  | .presetPC v => s.setPC v
  | .presetI v => s.setI v
  | .presetR v => s.setR v
  | .presetIff iff1 iff2 => s.setIff iff1 iff2
  | .presetIM m => s.setIM m
  | .presetHalt => s.setHalt
  | .presetTCycles n => { s with tCycles := n }

end Sys2Proof.Machine
end

