-- ==== Sys2Proof/Safety.lean ====
section
/-! DEFINITION. The terms claims are stated in: what a safe run is, when a run has ended, and what an
instruction leaves unchanged (its frame). -/

namespace Sys2Proof.Machine

/-! ### Runs -/

/-- A run has ended: the halt state, which nothing but reset leaves (R1533). -/
def State.ended (s : State) : Prop := s.halt = true

/-- A step is safe if it gives a next state and meets no unimplemented encoding: on silicon the same bytes
are instructions with other effects (R1502). -/
def SafeStep (s t : State) : Prop := step s = .next t ∧ t.diag = none

/-- `t` is `s` after some number of steps and host actions in between (R1530, U6). -/
inductive Reaches : State → State → Prop
  | refl (s : State) : Reaches s s
  | step {s t u : State} (h : Reaches s t) (hs : Machine.step t = .next u) : Reaches s u
  | host {s t : State} (h : Reaches s t) (act : HostAction) : Reaches s (t.applyHost act)

/-- A run of `n` steps that executed no unimplemented encoding (R1502). -/
def SafeRun (n : Nat) (s t : State) : Prop :=
  core.run n s = .next t ∧ (s.unimplSeen = false → t.unimplSeen = false)

/-! ### Frames -/

/-- The parts of the state, as frames name them. `tCycles` is not among them: it is an output that counts
the T-states of every instruction and that no instruction reads (R225). -/
inductive Part where
  | reg (r : Reg8)
  | flagS | flagZ | flagF5 | flagH | flagF3 | flagPV | flagN | flagC
  | shadow | ix | iy | sp | pc | i | r | iff1 | iff2 | im | halt
  | mem | port
  | unimplSeen | diag | draws
deriving DecidableEq, Repr

/-- The part is the same in both states; memory and ports as every read of one byte shows them. -/
def Part.same (p : Part) (s t : State) : Prop :=
  match p with
  | .reg x => t.reg x = s.reg x
  | .flagS => t.flags.s = s.flags.s
  | .flagZ => t.flags.z = s.flags.z
  | .flagF5 => t.flags.f5 = s.flags.f5
  | .flagH => t.flags.h = s.flags.h
  | .flagF3 => t.flags.f3 = s.flags.f3
  | .flagPV => t.flags.pv = s.flags.pv
  | .flagN => t.flags.n = s.flags.n
  | .flagC => t.flags.c = s.flags.c
  | .shadow => t.shadow = s.shadow
  | .ix => t.ix = s.ix
  | .iy => t.iy = s.iy
  | .sp => t.sp = s.sp
  | .pc => t.pc = s.pc
  | .i => t.i = s.i
  | .r => t.r = s.r
  | .iff1 => t.iff1 = s.iff1
  | .iff2 => t.iff2 = s.iff2
  | .im => t.im = s.im
  | .halt => t.halt = s.halt
  | .mem => ∀ a, t.readMem a = s.readMem a
  | .port => ∀ a, t.readPort a = s.readPort a
  | .unimplSeen => t.unimplSeen = s.unimplSeen
  | .diag => t.diag = s.diag
  | .draws => t.draws = s.draws

/-- Every part not listed is the same in both states. -/
def KeepsAllBut (changed : List Part) (s t : State) : Prop := ∀ p, p ∉ changed → p.same s t

/-- All eight flags. -/
def allFlags : List Part := [.flagS, .flagZ, .flagF5, .flagH, .flagF3, .flagPV, .flagN, .flagC]

/-- The byte at `a` becomes `v` and every other byte of memory is as before. -/
def StoresByte (a : Word) (v : Byte) (s t : State) : Prop :=
  t.readMem a = v ∧ ∀ x, x ≠ a → t.readMem x = s.readMem x

/-- The bytes at `a` and `a + 1` become the low and the high byte of `v`, every other byte of memory is as
before. -/
def StoresWord (a v : Word) (s t : State) : Prop :=
  t.readMem a = loByte v ∧ t.readMem (a + 1) = hiByte v ∧
    ∀ x, x ≠ a → x ≠ a + 1 → t.readMem x = s.readMem x

/-- The port cell at `a` becomes `v` and every other port cell is as before. -/
def WritesPort (a : Word) (v : Byte) (s t : State) : Prop :=
  t.readPort a = v ∧ ∀ x, x ≠ a → t.readPort x = s.readPort x

/-- The part of the state an operand `m` is in. -/
def Loc8.part (l : Loc8) : Part :=
  match l with
  | .reg r => .reg r
  | .hl | .ix _ | .iy _ => .mem

/-- The operand `m`, as `s` addresses it, becomes `v`; of memory nothing else changes, and nothing at all
when `m` is a register. -/
def WritesLoc (l : Loc8) (v : Byte) (s t : State) : Prop :=
  match l with
  | .reg r => t.reg r = v ∧ ∀ x, t.readMem x = s.readMem x
  | .hl => StoresByte s.hl v s t
  | .ix d => StoresByte (indexed s.ix d) v s t
  | .iy d => StoresByte (indexed s.iy d) v s t

end Sys2Proof.Machine
end

