-- ==== Sys2Proof/Certificates/Slice0/Obligations.lean ====
section
/-! DEFINITION. The statements for the provers, each a proposition named Obligations.<Name>, after the
vocabulary they share. In a statement about `exec`, PC already stands past the instruction's bytes (R440), so
"PC is unchanged" means that the next sequential instruction follows. `tCycles` is in no frame: it counts the
T-states of every instruction and no instruction reads it (R225). -/

namespace Sys2Proof.Claims

open Sys2Proof.Machine

/-! ### Encodings -/

/-- `i` has the bytes `bs`: the encoder gives them, and the decoder reads them as `i` and no byte more. -/
def HasEncoding (i : Instr) (bs : List Byte) : Prop :=
  encode i = bs ∧ ∀ rest, decode (bs ++ rest) = .instr i rest

/-- `nn` as an instruction holds it: low byte, high byte (R420). -/
def wordBytes (nn : Word) : List Byte := [loByte nn, hiByte nn]

/-- The bytes of a CB form with opcode pattern `op` on the operand `m` (R402, R406, R407). -/
def cbBytes (op : Nat) (l : Loc8) : List Byte :=
  match l with
  | .reg r => [0xCB, opByte (op + r.code)]
  | .hl => [0xCB, opByte (op + 6)]
  | .ix d => [0xDD, 0xCB, d, opByte (op + 6)]
  | .iy d => [0xFD, 0xCB, d, opByte (op + 6)]

/-- The ALU operation code (R412). -/
def aluCode : AluOp → Nat
  | .add => 0 | .adc => 1 | .sub => 2 | .sbc => 3 | .and => 4 | .xor => 5 | .or => 6 | .cp => 7

/-- The bytes of `op A,s`. -/
def aluBytes (op : AluOp) (o : Src8) : List Byte :=
  match o with
  | .loc (.reg r) => [opByte (0x80 + 8 * aluCode op + r.code)]
  | .imm n => [opByte (0xC6 + 8 * aluCode op), n]
  | .loc .hl => [opByte (0x86 + 8 * aluCode op)]
  | .loc (.ix d) => [0xDD, opByte (0x86 + 8 * aluCode op), d]
  | .loc (.iy d) => [0xFD, opByte (0x86 + 8 * aluCode op), d]

/-- The bytes of INC m (`z` = 4) and DEC m (`z` = 5). -/
def incDecBytes (z : Nat) (l : Loc8) : List Byte :=
  match l with
  | .reg r => [opByte (8 * r.code + z)]
  | .hl => [opByte (0x30 + z)]
  | .ix d => [0xDD, opByte (0x30 + z), d]
  | .iy d => [0xFD, opByte (0x30 + z), d]

/-- The bytes of the 8-bit loads to a register. -/
def loadBytes (r : Reg8) (o : Src8) : List Byte :=
  match o with
  | .loc (.reg r') => [opByte (0x40 + 8 * r.code + r'.code)]
  | .imm n => [opByte (0x06 + 8 * r.code), n]
  | .loc .hl => [opByte (0x46 + 8 * r.code)]
  | .loc (.ix d) => [0xDD, opByte (0x46 + 8 * r.code), d]
  | .loc (.iy d) => [0xFD, opByte (0x46 + 8 * r.code), d]

/-! ### Instructions by operand form -/

def loadForm (r : Reg8) (o : Src8) : Instr :=
  match o with
  | .loc (.reg r') => .ldRR r r'
  | .imm n => .ldRN r n
  | .loc .hl => .ldRHl r
  | .loc (.ix d) => .ldRIxD r d
  | .loc (.iy d) => .ldRIyD r d

def aluForm (op : AluOp) (o : Src8) : Instr :=
  match op, o with
  | .add, .loc (.reg r) => .addAR r
  | .add, .imm n => .addAN n
  | .add, .loc .hl => .addAHl
  | .add, .loc (.ix d) => .addAIxD d
  | .add, .loc (.iy d) => .addAIyD d
  | .adc, .loc (.reg r) => .adcAR r
  | .adc, .imm n => .adcAN n
  | .adc, .loc .hl => .adcAHl
  | .adc, .loc (.ix d) => .adcAIxD d
  | .adc, .loc (.iy d) => .adcAIyD d
  | .sub, .loc (.reg r) => .subR r
  | .sub, .imm n => .subN n
  | .sub, .loc .hl => .subHl
  | .sub, .loc (.ix d) => .subIxD d
  | .sub, .loc (.iy d) => .subIyD d
  | .sbc, .loc (.reg r) => .sbcAR r
  | .sbc, .imm n => .sbcAN n
  | .sbc, .loc .hl => .sbcAHl
  | .sbc, .loc (.ix d) => .sbcAIxD d
  | .sbc, .loc (.iy d) => .sbcAIyD d
  | .and, .loc (.reg r) => .andR r
  | .and, .imm n => .andN n
  | .and, .loc .hl => .andHl
  | .and, .loc (.ix d) => .andIxD d
  | .and, .loc (.iy d) => .andIyD d
  | .xor, .loc (.reg r) => .xorR r
  | .xor, .imm n => .xorN n
  | .xor, .loc .hl => .xorHl
  | .xor, .loc (.ix d) => .xorIxD d
  | .xor, .loc (.iy d) => .xorIyD d
  | .or, .loc (.reg r) => .orR r
  | .or, .imm n => .orN n
  | .or, .loc .hl => .orHl
  | .or, .loc (.ix d) => .orIxD d
  | .or, .loc (.iy d) => .orIyD d
  | .cp, .loc (.reg r) => .cpR r
  | .cp, .imm n => .cpN n
  | .cp, .loc .hl => .cpHl
  | .cp, .loc (.ix d) => .cpIxD d
  | .cp, .loc (.iy d) => .cpIyD d

def incForm (l : Loc8) : Instr :=
  match l with
  | .reg r => .incR r
  | .hl => .incHl
  | .ix d => .incIxD d
  | .iy d => .incIyD d

def decForm (l : Loc8) : Instr :=
  match l with
  | .reg r => .decR r
  | .hl => .decHl
  | .ix d => .decIxD d
  | .iy d => .decIyD d

def rotForm (k : RotOp) (l : Loc8) : Instr :=
  match k, l with
  | .rlc, .reg r => .rlcR r
  | .rlc, .hl => .rlcHl
  | .rlc, .ix d => .rlcIxD d
  | .rlc, .iy d => .rlcIyD d
  | .rrc, .reg r => .rrcR r
  | .rrc, .hl => .rrcHl
  | .rrc, .ix d => .rrcIxD d
  | .rrc, .iy d => .rrcIyD d
  | .rl, .reg r => .rlR r
  | .rl, .hl => .rlHl
  | .rl, .ix d => .rlIxD d
  | .rl, .iy d => .rlIyD d
  | .rr, .reg r => .rrR r
  | .rr, .hl => .rrHl
  | .rr, .ix d => .rrIxD d
  | .rr, .iy d => .rrIyD d
  | .sla, .reg r => .slaR r
  | .sla, .hl => .slaHl
  | .sla, .ix d => .slaIxD d
  | .sla, .iy d => .slaIyD d
  | .sra, .reg r => .sraR r
  | .sra, .hl => .sraHl
  | .sra, .ix d => .sraIxD d
  | .sra, .iy d => .sraIyD d
  | .srl, .reg r => .srlR r
  | .srl, .hl => .srlHl
  | .srl, .ix d => .srlIxD d
  | .srl, .iy d => .srlIyD d

def bitForm (b : Fin 8) (l : Loc8) : Instr :=
  match l with
  | .reg r => .bitR b r
  | .hl => .bitHl b
  | .ix d => .bitIxD b d
  | .iy d => .bitIyD b d

def setForm (b : Fin 8) (l : Loc8) : Instr :=
  match l with
  | .reg r => .setR b r
  | .hl => .setHl b
  | .ix d => .setIxD b d
  | .iy d => .setIyD b d

def resForm (b : Fin 8) (l : Loc8) : Instr :=
  match l with
  | .reg r => .resR b r
  | .hl => .resHl b
  | .ix d => .resIxD b d
  | .iy d => .resIyD b d

/-! ### Classes of instructions -/

/-- The instructions that use Port (R233). -/
def usesPort : Instr → Bool
  | .inAN _ | .inRC _ | .ini | .inir | .ind | .indr | .outNA _ | .outCR _ | .outi | .otir | .outd | .otdr => true
  | _ => false

/-- The instructions that use Mem beyond their own fetch (R233). -/
def usesMem : Instr → Bool
  | .ldRHl _ | .ldRIxD _ _ | .ldRIyD _ _ | .ldHlR _ | .ldIxDR _ _ | .ldIyDR _ _ | .ldHlN _ | .ldIxDN _ _
    | .ldIyDN _ _ | .ldABc | .ldADe | .ldANn _ | .ldBcA | .ldDeA | .ldNnA _ | .ldHlMem _ | .ldDdMem _ _
    | .ldIxMem _ | .ldIyMem _ | .ldMemHl _ | .ldMemDd _ _ | .ldMemIx _ | .ldMemIy _ | .pushQq _ | .pushIx
    | .pushIy | .popQq _ | .popIx | .popIy | .addAHl | .addAIxD _ | .addAIyD _ | .adcAHl | .adcAIxD _
    | .adcAIyD _ | .subHl | .subIxD _ | .subIyD _ | .sbcAHl | .sbcAIxD _ | .sbcAIyD _ | .andHl | .andIxD _
    | .andIyD _ | .orHl | .orIxD _ | .orIyD _ | .xorHl | .xorIxD _ | .xorIyD _ | .cpHl | .cpIxD _
    | .cpIyD _ | .incHl | .incIxD _ | .incIyD _ | .decHl | .decIxD _ | .decIyD _ | .exSpHl | .exSpIx
    | .exSpIy | .ldi | .ldir | .ldd | .lddr | .cpi | .cpir | .cpd | .cpdr | .rlcHl | .rlcIxD _ | .rlcIyD _
    | .rlHl | .rlIxD _ | .rlIyD _ | .rrcHl | .rrcIxD _ | .rrcIyD _ | .rrHl | .rrIxD _ | .rrIyD _ | .slaHl
    | .slaIxD _ | .slaIyD _ | .sraHl | .sraIxD _ | .sraIyD _ | .srlHl | .srlIxD _ | .srlIyD _ | .rld
    | .rrd | .bitHl _ | .bitIxD _ _ | .bitIyD _ _ | .setHl _ | .setIxD _ _ | .setIyD _ _ | .resHl _
    | .resIxD _ _ | .resIyD _ _ | .callNn _ | .callCcNn _ _ | .ret | .retCc _ | .reti | .retn | .rst _
    | .ini | .inir | .ind | .indr | .outi | .otir | .outd | .otdr => true
  | _ => false

/-- The control transfers and the repeating block instructions (R209). -/
def transfersControl : Instr → Bool
  | .jpNn _ | .jpCcNn _ _ | .jrE _ | .jrC _ | .jrNc _ | .jrZ _ | .jrNz _ | .jpHl | .jpIx | .jpIy | .djnz _
    | .callNn _ | .callCcNn _ _ | .ret | .retCc _ | .reti | .retn | .rst _ | .ldir | .lddr | .cpir | .cpdr
    | .inir | .indr | .otir | .otdr => true
  | _ => false

/-- The instructions that R212 says write no flag. -/
def keepsFlags : Instr → Bool
  | .ldRR _ _ | .ldRN _ _ | .ldRHl _ | .ldRIxD _ _ | .ldRIyD _ _ | .ldHlR _ | .ldIxDR _ _ | .ldIyDR _ _
    | .ldHlN _ | .ldIxDN _ _ | .ldIyDN _ _ | .ldABc | .ldADe | .ldANn _ | .ldBcA | .ldDeA | .ldNnA _
    | .ldIA | .ldRA | .ldDdNn _ _ | .ldIxNn _ | .ldIyNn _ | .ldHlMem _ | .ldDdMem _ _ | .ldIxMem _
    | .ldIyMem _ | .ldMemHl _ | .ldMemDd _ _ | .ldMemIx _ | .ldMemIy _ | .ldSpHl | .ldSpIx | .ldSpIy
    | .pushQq _ | .pushIx | .pushIy | .popIx | .popIy | .incSs _ | .incIx | .incIy | .decSs _ | .decIx
    | .decIy | .exDeHl | .exx | .exSpHl | .exSpIx | .exSpIy | .setR _ _ | .setHl _ | .setIxD _ _
    | .setIyD _ _ | .resR _ _ | .resHl _ | .resIxD _ _ | .resIyD _ _ | .jpNn _ | .jpCcNn _ _ | .jrE _
    | .jrC _ | .jrNc _ | .jrZ _ | .jrNz _ | .jpHl | .jpIx | .jpIy | .djnz _ | .callNn _ | .callCcNn _ _
    | .ret | .retCc _ | .reti | .retn | .rst _ | .inAN _ | .outNA _ | .outCR _ | .nop | .halt | .di | .ei
    | .im0 | .im1 | .im2 => true
  | .popQq qq => qq != .af
  | _ => false

/-- How many unspecified flag bits an instruction draws (U1, U2). -/
def drawsOf : Instr → Nat
  | .bitR _ _ | .bitHl _ | .bitIxD _ _ | .bitIyD _ _ => 2
  | .ini | .inir | .ind | .indr | .outi | .otir | .outd | .otdr => 3
  | _ => 0

/-- Apply `f` to the next state of an outcome. -/
def mapNext (f : State → State) (o : Host.Outcome State Fault Refusal) :
    Host.Outcome State Fault Refusal :=
  match o with
  | .next s => .next (f s)
  | .fault r => .fault r
  | .refused r => .refused r

/-! ### Parts and flags -/

/-- The parts a pair `dd` is made of. -/
def ddParts : PairDD → List Part
  | .bc => [.reg .b, .reg .c]
  | .de => [.reg .d, .reg .e]
  | .hl => [.reg .h, .reg .l]
  | .sp => [.sp]

/-- The parts a pair `qq` is made of. -/
def qqParts : PairQQ → List Part
  | .bc => [.reg .b, .reg .c]
  | .de => [.reg .d, .reg .e]
  | .hl => [.reg .h, .reg .l]
  | .af => .reg .a :: allFlags

/-- The number of 1 bits is even, by exclusive or of the bits (R503). -/
def evenOnes (v : Byte) : Bool :=
  !(v.getLsbD 0 ^^ v.getLsbD 1 ^^ v.getLsbD 2 ^^ v.getLsbD 3 ^^
    v.getLsbD 4 ^^ v.getLsbD 5 ^^ v.getLsbD 6 ^^ v.getLsbD 7)

/-- S, Z, F5 and F3 of a result (R502) with the other four flags given. -/
def resultFlags (res : Byte) (h pv n c : Bool) : Flags :=
  { s := res.getLsbD 7, z := decide (res.toNat = 0), f5 := res.getLsbD 5, h := h,
    f3 := res.getLsbD 3, pv := pv, n := n, c := c }

/-- `res` and `fl` are what `a + v + cin` gives (R510), said about the integers. -/
def IsSum8 (a v : Byte) (cin : Nat) (res : Byte) (fl : Flags) : Prop :=
  res.toNat = (a.toNat + v.toNat + cin) % 256 ∧
    fl = resultFlags res (decide (16 ≤ a.toNat % 16 + v.toNat % 16 + cin))
      (decide (a.toInt + v.toInt + cin < -128 ∨ 127 < a.toInt + v.toInt + cin)) false
      (decide (256 ≤ a.toNat + v.toNat + cin))

/-- `res` and `fl` are what `a - v - cin` gives (R511), said about the integers. -/
def IsDiff8 (a v : Byte) (cin : Nat) (res : Byte) (fl : Flags) : Prop :=
  (res.toNat : Int) = ((a.toNat : Int) - v.toNat - cin) % 256 ∧
    fl = resultFlags res (decide (a.toNat % 16 < v.toNat % 16 + cin))
      (decide (a.toInt - v.toInt - cin < -128 ∨ 127 < a.toInt - v.toInt - cin)) true
      (decide (a.toNat < v.toNat + cin))

/-- Conditions by the bits of F (R210, R409). -/
def condTrue (cc : Cond) (f : Byte) : Bool :=
  match cc with
  | .nz => !f.getLsbD 6
  | .z => f.getLsbD 6
  | .nc => !f.getLsbD 0
  | .c => f.getLsbD 0
  | .po => !f.getLsbD 2
  | .pe => f.getLsbD 2
  | .p => !f.getLsbD 7
  | .m => f.getLsbD 7

/-- An instruction that is a call when the flag byte is `f` (R1320). -/
def callsUnder (f : Byte) : Instr → Bool
  | .callNn _ | .rst _ => true
  | .callCcNn cc _ => condTrue cc f
  | _ => false

/-- An instruction that is a return when the flag byte is `f` (R1320). -/
def returnsUnder (f : Byte) : Instr → Bool
  | .ret | .reti | .retn => true
  | .retCc cc => condTrue cc f
  | _ => false

/-- `w` is `base` plus the signed byte `d`, modulo 65536 (R421). -/
def IsOffset (base : Word) (d : Byte) (w : Word) : Prop :=
  (w.toNat : Int) = ((base.toNat : Int) + d.toInt) % 65536

/-- The memory of `t` is that of `s` with `v` on the stack (R303): high byte at SP - 1, low byte at SP - 2, SP
as `s` has it, and no other byte changed. -/
def HoldsPushed (v : Word) (s t : State) : Prop :=
  t.readMem (s.sp - 1) = hiByte v ∧ t.readMem (s.sp - 2) = loByte v ∧
    ∀ x, x ≠ s.sp - 1 → x ≠ s.sp - 2 → t.readMem x = s.readMem x

/-- A push of `v` (R303): its bytes on the stack, and SP two lower. -/
def Pushes (v : Word) (s t : State) : Prop := HoldsPushed v s t ∧ t.sp = s.sp - 2

/-- The word a pop reads (R303). -/
def popped (s : State) : Word := joinBytes (s.readMem (s.sp + 1)) (s.readMem s.sp)

/-! ### The shape of a group's statement -/

/-- A load of A from memory. -/
def LoadsA (i : Instr) (bs : List Byte) (addr : State → Word) : Prop :=
  HasEncoding i bs ∧ ∀ s, ∃ t, exec i s = .next t ∧ t.reg .a = s.readMem (addr s) ∧
    KeepsAllBut [.reg .a] s t

/-- A store of one byte. -/
def Stores8 (i : Instr) (bs : List Byte) (addr : State → Word) (v : State → Byte) : Prop :=
  HasEncoding i bs ∧ ∀ s, ∃ t, exec i s = .next t ∧ StoresByte (addr s) (v s) s t ∧
    KeepsAllBut [.mem] s t

/-- A store of one word. -/
def Stores16 (i : Instr) (bs : List Byte) (addr : Word) (v : State → Word) : Prop :=
  HasEncoding i bs ∧ ∀ s, ∃ t, exec i s = .next t ∧ StoresWord addr (v s) s t ∧ KeepsAllBut [.mem] s t

/-- An instruction that puts `v` into a 16-bit register, read by `get`, and changes nothing but `parts`. -/
def Sets16 (i : Instr) (bs : List Byte) (get : State → Word) (parts : List Part) (v : State → Word) :
    Prop :=
  HasEncoding i bs ∧ ∀ s, ∃ t, exec i s = .next t ∧ get t = v s ∧ KeepsAllBut parts s t

/-- A push of a 16-bit register. -/
def PushesReg (i : Instr) (bs : List Byte) (v : State → Word) : Prop :=
  HasEncoding i bs ∧ ∀ s, ∃ t, exec i s = .next t ∧ Pushes (v s) s t ∧ KeepsAllBut [.mem, .sp] s t

/-- A pop into a 16-bit register. -/
def PopsReg (i : Instr) (bs : List Byte) (get : State → Word) (parts : List Part) : Prop :=
  HasEncoding i bs ∧ ∀ s, ∃ t, exec i s = .next t ∧ get t = popped s ∧ t.sp = s.sp + 2 ∧
    KeepsAllBut (.sp :: parts) s t

/-- A rotate or shift of the operand `m`: the result and the carry as functions of the byte and the old
carry, both as numbers. -/
def RotatesLoc (k : RotOp) (code : Nat) (res carry : Nat → Nat → Nat) : Prop :=
  ∀ l, HasEncoding (rotForm k l) (cbBytes (8 * code) l) ∧
    ∀ s, ∃ t v, exec (rotForm k l) s = .next t ∧
      v.toNat = res (l.read s).toNat s.flags.c.toNat ∧ WritesLoc l v s t ∧
      t.flags = resultFlags v false (evenOnes v) false
        (decide (carry (l.read s).toNat s.flags.c.toNat = 1)) ∧
      KeepsAllBut (l.part :: allFlags) s t

/-- A rotate of A that writes H, N and C only. -/
def RotatesA (i : Instr) (op : Byte) (res carry : Nat → Nat → Nat) : Prop :=
  HasEncoding i [op] ∧ ∀ s, ∃ t, exec i s = .next t ∧
    t.regs.a.toNat = res s.regs.a.toNat s.flags.c.toNat ∧
    t.flags = { s.flags with
      h := false, n := false, c := decide (carry s.regs.a.toNat s.flags.c.toNat = 1) } ∧
    KeepsAllBut [.reg .a, .flagH, .flagN, .flagC] s t

/-- One element of a block transfer; `delta` moves the cursors, a repeating form goes back to its first byte
while BC is not 0 after the decrement. -/
def MovesBlock (i : Instr) (op : Byte) (delta : Word) (repeats : Bool) : Prop :=
  HasEncoding i [0xED, op] ∧ ∀ s, ∃ t, exec i s = .next t ∧
    StoresByte s.de (s.readMem s.hl) s t ∧ t.hl = s.hl + delta ∧ t.de = s.de + delta ∧
    t.bc = s.bc - 1 ∧
    t.flags = { s.flags with h := false, pv := decide (s.bc ≠ 1), n := false } ∧
    t.pc = (if repeats ∧ s.bc ≠ 1 then s.pc - 2 else s.pc) ∧
    KeepsAllBut [.mem, .reg .h, .reg .l, .reg .d, .reg .e, .reg .b, .reg .c, .flagH, .flagPV, .flagN,
      .pc] s t

/-- One element of a block search. -/
def SearchesBlock (i : Instr) (op : Byte) (delta : Word) (repeats : Bool) : Prop :=
  HasEncoding i [0xED, op] ∧ ∀ s, ∃ t res fl, exec i s = .next t ∧
    IsDiff8 s.regs.a (s.readMem s.hl) 0 res fl ∧ t.hl = s.hl + delta ∧ t.bc = s.bc - 1 ∧
    t.flags = { s.flags with s := fl.s, z := fl.z, h := fl.h, pv := decide (s.bc ≠ 1), n := true } ∧
    t.pc = (if repeats ∧ s.bc ≠ 1 ∧ s.regs.a ≠ s.readMem s.hl then s.pc - 2 else s.pc) ∧
    KeepsAllBut [.reg .h, .reg .l, .reg .b, .reg .c, .flagS, .flagZ, .flagH, .flagPV, .flagN, .pc] s t

/-- One element of a block input. S, H and PV are unspecified: the statement holds whatever they are. -/
def InputsBlock (i : Instr) (op : Byte) (delta : Word) (repeats : Bool) : Prop :=
  HasEncoding i [0xED, op] ∧ ∀ s, ∃ t, exec i s = .next t ∧
    StoresByte s.hl (s.readPort (joinBytes s.regs.b s.regs.c)) s t ∧ t.hl = s.hl + delta ∧
    t.reg .b = s.reg .b - 1 ∧ t.flags.z = decide (s.reg .b = 1) ∧ t.flags.n = true ∧
    t.pc = (if repeats ∧ s.reg .b ≠ 1 then s.pc - 2 else s.pc) ∧
    KeepsAllBut [.mem, .reg .h, .reg .l, .reg .b, .flagS, .flagZ, .flagH, .flagPV, .flagN, .draws, .pc] s t

/-- One element of a block output. S, H and PV are unspecified: the statement holds whatever they are. -/
def OutputsBlock (i : Instr) (op : Byte) (delta : Word) (repeats : Bool) : Prop :=
  HasEncoding i [0xED, op] ∧ ∀ s, ∃ t, exec i s = .next t ∧
    WritesPort (joinBytes (s.regs.b - 1) s.regs.c) (s.readMem s.hl) s t ∧ t.hl = s.hl + delta ∧
    t.reg .b = s.reg .b - 1 ∧ t.flags.z = decide (s.reg .b = 1) ∧ t.flags.n = true ∧
    t.pc = (if repeats ∧ s.reg .b ≠ 1 then s.pc - 2 else s.pc) ∧
    KeepsAllBut [.port, .reg .h, .reg .l, .reg .b, .flagS, .flagZ, .flagH, .flagPV, .flagN, .draws, .pc] s t

/-- A jump to a computed address. -/
def JumpsTo (i : Instr) (bs : List Byte) (target : State → Word) : Prop :=
  HasEncoding i bs ∧ ∀ s, ∃ t, exec i s = .next t ∧ t.pc = target s ∧ KeepsAllBut [.pc] s t

/-- A relative jump under a condition on the flag byte; not taken, nothing changes. -/
def JumpsRelative (i : Instr) (bs : List Byte) (e : Byte) (taken : Byte → Bool) : Prop :=
  HasEncoding i bs ∧ ∀ s, ∃ t, exec i s = .next t ∧
    (if taken s.regs.f then IsOffset s.pc e t.pc else t.pc = s.pc) ∧
    KeepsAllBut [.pc] s t

/-- A call to `target` under a condition on the flag byte; not taken, nothing changes. -/
def CallsTo (i : Instr) (bs : List Byte) (target : Word) (taken : Byte → Bool) : Prop :=
  HasEncoding i bs ∧ ∀ s, ∃ t, exec i s = .next t ∧
    if taken s.regs.f then Pushes s.pc s t ∧ t.pc = target ∧ KeepsAllBut [.mem, .sp, .pc] s t
    else KeepsAllBut [] s t

/-- A return under a condition on the flag byte, which leaves in IFF1 the flip-flop `iff1` reads; not taken,
nothing changes. -/
def Returns (i : Instr) (bs : List Byte) (taken : Byte → Bool) (iff1 : State → Bool) : Prop :=
  HasEncoding i bs ∧ ∀ s, ∃ t, exec i s = .next t ∧
    if taken s.regs.f then t.pc = popped s ∧ t.sp = s.sp + 2 ∧ t.iff1 = iff1 s ∧
      KeepsAllBut [.pc, .sp, .iff1] s t
    else KeepsAllBut [] s t

/-- An unimplemented encoding as its meaning runs it: DIAG and the sticky bit, and nothing else. PC already
stands past the bytes, so DIAG's PC0 is PC less their number. -/
def RaisesUnimplemented (i : Instr) (bs : List Byte) : Prop :=
  encode i = bs ∧ ∀ s, ∃ t, exec i s = .next t ∧
    t.diag = some ⟨s.pc - BitVec.ofNat 16 bs.length, bs⟩ ∧ t.unimplSeen = true ∧
    KeepsAllBut [.diag, .unimplSeen] s t

/-- The ED second bytes that R451 lists as unimplemented. -/
def edUnimplemented (op : Nat) : Bool :=
  decide (op ≤ 0x3F) ||
    [0x4C, 0x4E, 0x54, 0x55, 0x5C, 0x5D, 0x64, 0x65, 0x66, 0x6C, 0x6D, 0x6E, 0x70, 0x71, 0x74, 0x75, 0x76,
      0x77, 0x7C, 0x7D, 0x7E, 0x7F].contains op ||
    (decide (0x80 ≤ op) && decide (op ≤ 0x9F)) || (decide (0xA4 ≤ op) && decide (op ≤ 0xA7)) ||
    (decide (0xAC ≤ op) && decide (op ≤ 0xAF)) || (decide (0xB4 ≤ op) && decide (op ≤ 0xB7)) ||
    (decide (0xBC ≤ op) && decide (op ≤ 0xBF)) || decide (0xC0 ≤ op)

/-- The second bytes after DD or FD, besides CB, that R433 lists as instructions: the ADD, LD, INC and DEC
of the index register, the rows with (XY+d), POP, EX, PUSH, JP and LD SP. -/
def xyImplemented (op : Nat) : Bool :=
  [0x09, 0x19, 0x29, 0x39, 0x21, 0x22, 0x2A, 0x23, 0x2B, 0x34, 0x35, 0x36, 0xE1, 0xE3, 0xE5, 0xE9,
      0xF9].contains op ||
    (decide (0x40 ≤ op) && decide (op ≤ 0xBF) && op != 0x76 &&
      (decide (op % 8 = 6) || decide (op / 8 = 14)))

/-- The fourth bytes that R453 lists as unimplemented. -/
def xyCbUnimplemented (op : Nat) : Bool := op % 8 != 6 || op == 0x36

/-- One event, at the level of a step: PC past the bytes, DIAG with PC0 and the bytes, the sticky bit; no
other part of the state changes (R450, R1501, R1502). The model's own: the form of DIAG (log entry 5) and
`tCycles` at 0 (R1640; log entry 4). -/
def StepReportsUnimplemented (bs : List Byte) : Prop :=
  ∀ s, s.halt = false → (∀ k, k < bs.length → s.readMem (s.pc + BitVec.ofNat 16 k) = bs.getD k 0) →
    step s = .next { s with
      pc := s.pc + BitVec.ofNat 16 bs.length, tCycles := 0, unimplSeen := true, diag := some ⟨s.pc, bs⟩ }

end Sys2Proof.Claims

open Sys2Proof Sys2Proof.Machine Sys2Proof.Claims

/-! ### Encodings -/

/-- Decoding the encoding of any well-formed instruction gives it back, with every operand, and leaves the
bytes after it (R402, R440). -/
def Obligations.DecodeOfEncode : Prop :=
  ∀ (i : Instr) (rest : List Byte), i.wellFormed = true → decode (encode i ++ rest) = .instr i rest

/-- Whatever bytes decode, the instruction is well-formed and its encoding is the bytes consumed. -/
def Obligations.EncodeOfDecode : Prop :=
  ∀ (bs rest : List Byte) (i : Instr), decode bs = .instr i rest →
    i.wellFormed = true ∧ encode i ++ rest = bs

/-- Every four bytes decode, and an instruction is 1 to 4 bytes long (R400, R454). -/
def Obligations.EveryFourBytesDecode : Prop :=
  ∀ b0 b1 b2 b3 : Byte, ∃ i rest, decode [b0, b1, b2, b3] = .instr i rest ∧ rest.length ≤ 3 ∧
    [b0, b1, b2, b3] = encode i ++ rest

/-- The unimplemented encodings are those of R451 (198 ED bytes and the eight CB bytes), R452 (216 bytes each
after DD and FD) and R453 (225 bytes each), and no others of these spaces. -/
def Obligations.UnimplementedClasses : Prop :=
  (∀ (op : Byte) (rest : List Byte),
    ((0x30 ≤ op.toNat ∧ op.toNat ≤ 0x37) ↔ ∃ z, decode (0xCB :: op :: rest) = .instr (.unimplCb z) rest) ∧
    (edUnimplemented op.toNat = true ↔ decode (0xED :: op :: rest) = .instr (.unimplEd op) rest) ∧
    ((xyImplemented op.toNat = false ∧ op ≠ 0xCB) ↔
      decode (0xDD :: op :: rest) = .instr (.unimplDd op) rest) ∧
    ((xyImplemented op.toNat = false ∧ op ≠ 0xCB) ↔
      decode (0xFD :: op :: rest) = .instr (.unimplFd op) rest) ∧
    (∀ d, xyCbUnimplemented op.toNat = true ↔
      decode (0xDD :: 0xCB :: d :: op :: rest) = .instr (.unimplDdCb d op) rest) ∧
    (∀ d, xyCbUnimplemented op.toNat = true ↔
      decode (0xFD :: 0xCB :: d :: op :: rest) = .instr (.unimplFdCb d op) rest)) ∧
  ((List.range 256).filter edUnimplemented).length = 198 ∧
  ((List.range 256).filter fun op => !xyImplemented op && op != 0xCB).length = 216 ∧
  ((List.range 256).filter xyCbUnimplemented).length = 225

/-- Words written out from the spec's encodings, one or two a family, decode to what they stand for. -/
def Obligations.SpecWordsDecode : Prop :=
  decode [0x06, 0x12] = .instr (.ldRN .b 0x12) [] ∧
  decode [0x11, 0x23, 0x1C] = .instr (.ldDdNn .de 0x1C23) [] ∧
  decode [0x12] = .instr .ldDeA [] ∧
  decode [0xDD, 0x36, 0xFF, 0x5A] = .instr (.ldIxDN 0xFF 0x5A) [] ∧
  decode [0xF5] = .instr (.pushQq .af) [] ∧
  decode [0x8E] = .instr .adcAHl [] ∧
  decode [0xED, 0x52] = .instr (.sbcHlSs .de) [] ∧
  decode [0xED, 0xB0] = .instr .ldir [] ∧
  decode [0xFD, 0xCB, 0x02, 0x2E] = .instr (.sraIyD 0x02) [] ∧
  decode [0xCB, 0x50] = .instr (.bitR 2 .b) [] ∧
  decode [0xDA, 0x20, 0x15] = .instr (.jpCcNn .c 0x1520) [] ∧
  decode [0xED, 0x50] = .instr (.inRC .d) [] ∧
  decode [0x76] = .instr .halt [] ∧
  decode [0xCB, 0x37] = .instr (.unimplCb 7) []

/-! ### The step -/

/-- Out of the halt state, a step is the meaning of the instruction that the bytes at PC decode to, run with
PC past its bytes (R440, R1530), tCycles at 0 (R225) and DIAG not asserted (log entry 6). -/
def Obligations.StepRunsDecodedInstruction : Prop :=
  ∀ (s : State) (i : Instr) (rest : List Byte), s.halt = false →
    decode [s.readMem s.pc, s.readMem (s.pc + 1), s.readMem (s.pc + 2), s.readMem (s.pc + 3)] =
      .instr i rest →
    step s = exec i { s with
      pc := s.pc + BitVec.ofNat 16 (4 - rest.length), tCycles := 0, diag := none }

/-- A step with HALT = 1 changes no architectural state (R1531). -/
def Obligations.HaltedStepChangesNothing : Prop :=
  ∀ s : State, s.halt = true → step s = .next { s with tCycles := 0, diag := none }

/-- The step function is total: no fault, no refusal, from any state (R1500). -/
def Obligations.StepAlwaysAnswersNext : Prop :=
  ∀ s : State, ∃ t, step s = .next t

/-- The model's own invariant (log entry 2): every step keeps Mem and Port in their canonical form. -/
def Obligations.StepKeepsMemoryCanonical : Prop :=
  ∀ s t : State, Memory.wf s.mem ∧ Memory.wf s.port → step s = .next t →
    Memory.wf t.mem ∧ Memory.wf t.port

/-- The model's own (log entry 2): the reset state's Mem and Port are in canonical form. -/
def Obligations.ResetMemoryCanonical : Prop :=
  Memory.wf State.reset.mem ∧ Memory.wf State.reset.port

/-- After reset, at the start and in the middle of a run, for any draw of the unspecified values: PC is 0, the
control state is clear, and the unspecified registers, Mem and Port hold the values drawn (R260, R1600). -/
def Obligations.ResetState : Prop :=
  ∀ (draw : ResetDraw) (running s : State),
    s = State.resetWith draw ∨ s = running.applyHost (.reset draw) →
    s.pc = 0x0000 ∧ s.iff1 = false ∧ s.iff2 = false ∧ s.im = .im0 ∧ s.i = 0x00 ∧ s.r = 0x00 ∧
      s.halt = false ∧ s.unimplSeen = false ∧ s.tCycles = 0 ∧
      s.regs = draw.regs ∧ s.shadow = draw.shadow ∧ s.ix = draw.ix ∧ s.iy = draw.iy ∧ s.sp = draw.sp ∧
      s.mem = draw.mem ∧ s.port = draw.port

/-- The host's load (R331): every byte is where it belongs, modulo 65536, and of bytes that fall on one
address, in a program longer than the space, the last; every other byte of memory is as before, and nothing
but Mem changes. -/
def Obligations.HostLoadCopiesBytes : Prop :=
  ∀ (s : State) (bytes : List Byte) (addr : Word),
    (∀ k, k < bytes.length →
      (∀ j, k < j → j < bytes.length → addr + BitVec.ofNat 16 j ≠ addr + BitVec.ofNat 16 k) →
      (s.load bytes addr).readMem (addr + BitVec.ofNat 16 k) = bytes.getD k 0) ∧
    (∀ x : Word, (∀ k, k < bytes.length → x ≠ addr + BitVec.ofNat 16 k) →
      (s.load bytes addr).readMem x = s.readMem x) ∧
    s.load bytes addr = { s with mem := (s.load bytes addr).mem }

/-! ### Rules about the whole machine -/

/-- HALT is set by the HALT instruction, and no other instruction sets or clears it; a halted machine stays
halted and unchanged; of the host's actions (log entry 9) a preset of HALT sets it, reset clears it, and no
other touches it (R224, R1524, R1531). -/
def Obligations.HaltSetOnlyByHalt : Prop :=
  (∀ (i : Instr) (s t : State), exec i s = .next t → (t.halt = true ↔ i = .halt ∨ s.halt = true)) ∧
    (∀ s t : State, s.halt = true → step s = .next t → t = { s with tCycles := 0, diag := none }) ∧
    (∀ (s : State) (act : HostAction),
      (s.applyHost act).halt = true ↔ act = .presetHalt ∨ s.halt = true ∧ ∀ draw, act ≠ .reset draw)

/-- I, R, IFF1, IFF2 and IM are storage: an instruction that is not named for it neither reads nor writes
it, so it runs the same whatever the register holds and hands it on (R220 to R223, R1511). -/
def Obligations.ControlRegistersAreStorage : Prop :=
  ∀ (i : Instr) (s : State),
    (∀ v : Byte, i ≠ .ldIA → i ≠ .ldAI →
      exec i { s with i := v } = mapNext (fun t => { t with i := v }) (exec i s)) ∧
    (∀ v : Byte, i ≠ .ldRA → i ≠ .ldAR →
      exec i { s with r := v } = mapNext (fun t => { t with r := v }) (exec i s)) ∧
    (∀ b : Bool, i ≠ .ei → i ≠ .di → i ≠ .retn →
      exec i { s with iff1 := b } = mapNext (fun t => { t with iff1 := b }) (exec i s)) ∧
    (∀ b : Bool, i ≠ .ei → i ≠ .di → i ≠ .retn → i ≠ .ldAI → i ≠ .ldAR →
      exec i { s with iff2 := b } = mapNext (fun t => { t with iff2 := b }) (exec i s)) ∧
    (∀ m : IntMode, i ≠ .im0 → i ≠ .im1 → i ≠ .im2 →
      exec i { s with im := m } = mapNext (fun t => { t with im := m }) (exec i s))

/-- The shadow set is reached by EX AF,AF' and EXX only, which swap; every other instruction runs the same
whatever it holds and leaves it (R202). -/
def Obligations.ShadowSetOnlyByExchanges : Prop :=
  ∀ (s : State),
    (∀ (i : Instr) (x : RegSet), i ≠ .exAfAf → i ≠ .exx →
      exec i { s with shadow := x } = mapNext (fun t => { t with shadow := x }) (exec i s)) ∧
    (∃ t, exec .exAfAf s = .next t ∧
      t.regs = { s.regs with a := s.shadow.a, f := s.shadow.f } ∧
      t.shadow = { s.shadow with a := s.regs.a, f := s.regs.f }) ∧
    (∃ t, exec .exx s = .next t ∧
      t.regs = { s.shadow with a := s.regs.a, f := s.regs.f } ∧
      t.shadow = { s.regs with a := s.shadow.a, f := s.shadow.f })

/-- Port is used by the twelve input and output instructions only, Mem by the instructions with a memory
operand, the stack operations and the memory side of the block instructions only: every other instruction
runs the same whatever the space holds and leaves it, so neither space has a view in the other (R233). -/
def Obligations.SpacesUsedOnlyByTheirInstructions : Prop :=
  ∀ (i : Instr) (s : State) (m : Memory),
    (usesPort i = false →
      exec i { s with port := m } = mapNext (fun t => { t with port := m }) (exec i s)) ∧
    (usesMem i = false →
      exec i { s with mem := m } = mapNext (fun t => { t with mem := m }) (exec i s))

/-- The instructions that R212 says write no flag leave the whole of F as it was. -/
def Obligations.DataMovesKeepFlags : Prop :=
  ∀ (i : Instr) (s : State), keepsFlags i = true →
    ∃ t, exec i s = .next t ∧ t.regs.f = s.regs.f

/-- An instruction that does not transfer control leaves PC at PC0 plus its length (R209). -/
def Obligations.SequentialInstructionsAdvancePC : Prop :=
  ∀ (i : Instr) (s : State) (rest : List Byte), transfersControl i = false → s.halt = false →
    decode [s.readMem s.pc, s.readMem (s.pc + 1), s.readMem (s.pc + 2), s.readMem (s.pc + 3)] =
      .instr i rest →
    ∃ t, step s = .next t ∧ t.pc = s.pc + BitVec.ofNat 16 (encode i).length

/-- An unimplemented encoding is a no-op of 2 or 4 bytes with a diagnostic: as a step, and as the meaning of
its instruction (R450, R1501, R1502). The model's own: that the step leaves `tCycles` at 0 (R1640, which gives
it informatively; log entry 4), and DIAG as a field with PC0 and the bytes (log entry 5). -/
def Obligations.UnimplementedIsNoOpWithDiag : Prop :=
  (∀ z : Fin 8, StepReportsUnimplemented [0xCB, opByte (0x30 + z.val)] ∧
    RaisesUnimplemented (.unimplCb z) [0xCB, opByte (0x30 + z.val)]) ∧
  (∀ op : Byte, (edUnimplemented op.toNat = true → StepReportsUnimplemented [0xED, op]) ∧
    RaisesUnimplemented (.unimplEd op) [0xED, op]) ∧
  (∀ op : Byte, (xyImplemented op.toNat = false → op ≠ 0xCB →
      StepReportsUnimplemented [0xDD, op] ∧ StepReportsUnimplemented [0xFD, op]) ∧
    RaisesUnimplemented (.unimplDd op) [0xDD, op] ∧ RaisesUnimplemented (.unimplFd op) [0xFD, op]) ∧
  (∀ d op : Byte, (xyCbUnimplemented op.toNat = true →
      StepReportsUnimplemented [0xDD, 0xCB, d, op] ∧ StepReportsUnimplemented [0xFD, 0xCB, d, op]) ∧
    RaisesUnimplemented (.unimplDdCb d op) [0xDD, 0xCB, d, op] ∧
    RaisesUnimplemented (.unimplFdCb d op) [0xFD, 0xCB, d, op])

/-- `unimpl_seen` is set by every step that executes an unimplemented encoding, and by nothing else; only those
steps assert DIAG; of the host's actions (log entry 9) reset clears the bit and no other touches it (R1501,
R1502). -/
def Obligations.UnimplSeenIsSticky : Prop :=
  (∀ s t : State, step s = .next t →
      (t.unimplSeen = true ↔ s.unimplSeen = true ∨ t.diag.isSome = true)) ∧
    (∀ (i : Instr) (s t : State), exec i s = .next t →
      if i.isUnimplemented then t.unimplSeen = true ∧ t.diag.isSome = true
      else t.unimplSeen = s.unimplSeen ∧ t.diag = s.diag) ∧
    (∀ (s : State) (act : HostAction),
      (s.applyHost act).unimplSeen = true ↔ s.unimplSeen = true ∧ ∀ draw, act ≠ .reset draw)

/-- The unspecified flag bits are fresh draws (U1, U2). S and PV after BIT are the next two bits of
`Config.unspecBit`, S, H and PV after an element of block input or output the next three; the counter moves past
the bits drawn, and by nothing else; a step never takes it back, nor does any action of the host, reset among
them. So no bit is used twice, and of the value of a bit the statement says nothing. That the bits are numbered
is the model's own (log entry 3). -/
def Obligations.UnspecifiedBitsAreFresh : Prop :=
  (∀ (i : Instr) (s t : State), exec i s = .next t →
      t.draws = s.draws + drawsOf i ∧
      (drawsOf i = 2 →
        t.flags.s = Config.unspecBit s.draws ∧ t.flags.pv = Config.unspecBit (s.draws + 1)) ∧
      (drawsOf i = 3 →
        t.flags.s = Config.unspecBit s.draws ∧ t.flags.h = Config.unspecBit (s.draws + 1) ∧
          t.flags.pv = Config.unspecBit (s.draws + 2))) ∧
    (∀ s t : State, step s = .next t → s.draws ≤ t.draws) ∧
    ∀ (s : State) (act : HostAction), (s.applyHost act).draws = s.draws

/-- Operand forms (R421, R422): a register is itself, (HL) the byte at HL, (IX+d) and (IY+d) the byte at the
index register plus the signed displacement modulo 65536, n itself. -/
def Obligations.OperandForms : Prop :=
  ∀ (s : State),
    (∀ r, (Src8.loc (.reg r)).read s = s.reg r) ∧ (∀ n, (Src8.imm n).read s = n) ∧
    (Src8.loc .hl).read s = s.readMem (joinBytes s.regs.h s.regs.l) ∧
    (∀ d, ∃ a, IsOffset s.ix d a ∧ (Src8.loc (.ix d)).read s = s.readMem a) ∧
    (∀ d, ∃ a, IsOffset s.iy d a ∧ (Src8.loc (.iy d)).read s = s.readMem a)

/-! ### 8-bit loads -/

/-- `LD r,r'`, `LD r,n`, `LD r,(HL)`, `LD r,(IX+d)`, `LD r,(IY+d)`, `LD A,(BC)`, `LD A,(DE)`, `LD A,(nn)`:
the destination receives the operand as it was before, and nothing else changes. -/
def Obligations.LoadRegister : Prop :=
  (∀ r o, HasEncoding (loadForm r o) (loadBytes r o) ∧ ∀ s, ∃ t, exec (loadForm r o) s = .next t ∧
    t.reg r = o.read s ∧ KeepsAllBut [.reg r] s t) ∧
  LoadsA .ldABc [0x0A] (fun s => s.bc) ∧
  LoadsA .ldADe [0x1A] (fun s => s.de) ∧
  ∀ nn, LoadsA (.ldANn nn) (0x3A :: wordBytes nn) (fun _ => nn)

/-- The 8-bit stores: the addressed byte receives the register or immediate, and nothing else changes. -/
def Obligations.StoreByte : Prop :=
  (∀ r, Stores8 (.ldHlR r) [opByte (0x70 + r.code)] (fun s => s.hl) (fun s => s.reg r)) ∧
  (∀ d r, Stores8 (.ldIxDR d r) [0xDD, opByte (0x70 + r.code), d] (fun s => indexed s.ix d)
    (fun s => s.reg r)) ∧
  (∀ d r, Stores8 (.ldIyDR d r) [0xFD, opByte (0x70 + r.code), d] (fun s => indexed s.iy d)
    (fun s => s.reg r)) ∧
  (∀ n, Stores8 (.ldHlN n) [0x36, n] (fun s => s.hl) (fun _ => n)) ∧
  (∀ d n, Stores8 (.ldIxDN d n) [0xDD, 0x36, d, n] (fun s => indexed s.ix d) (fun _ => n)) ∧
  (∀ d n, Stores8 (.ldIyDN d n) [0xFD, 0x36, d, n] (fun s => indexed s.iy d) (fun _ => n)) ∧
  Stores8 .ldBcA [0x02] (fun s => s.bc) (fun s => s.regs.a) ∧
  Stores8 .ldDeA [0x12] (fun s => s.de) (fun s => s.regs.a) ∧
  (∀ nn, Stores8 (.ldNnA nn) (0x32 :: wordBytes nn) (fun _ => nn) (fun s => s.regs.a)) ∧
  (∀ (s : State) d, IsOffset s.ix d (indexed s.ix d) ∧ IsOffset s.iy d (indexed s.iy d))

/-- `LD A,I` and `LD A,R` report IFF2 in PV; `LD I,A` and `LD R,A` copy all eight bits and write no flag. -/
def Obligations.LoadInterruptAndRefresh : Prop :=
  (HasEncoding .ldAI [0xED, 0x57] ∧ ∀ s, ∃ t, exec .ldAI s = .next t ∧ t.reg .a = s.i ∧
    t.flags = { s.flags with
      s := s.i.getLsbD 7, z := decide (s.i = 0), h := false, pv := s.iff2, n := false } ∧
    KeepsAllBut [.reg .a, .flagS, .flagZ, .flagH, .flagPV, .flagN] s t) ∧
  (HasEncoding .ldAR [0xED, 0x5F] ∧ ∀ s, ∃ t, exec .ldAR s = .next t ∧ t.reg .a = s.r ∧
    t.flags = { s.flags with
      s := s.r.getLsbD 7, z := decide (s.r = 0), h := false, pv := s.iff2, n := false } ∧
    KeepsAllBut [.reg .a, .flagS, .flagZ, .flagH, .flagPV, .flagN] s t) ∧
  (HasEncoding .ldIA [0xED, 0x47] ∧ ∀ s, ∃ t, exec .ldIA s = .next t ∧ t.i = s.regs.a ∧
    KeepsAllBut [.i] s t) ∧
  (HasEncoding .ldRA [0xED, 0x4F] ∧ ∀ s, ∃ t, exec .ldRA s = .next t ∧ t.r = s.regs.a ∧
    KeepsAllBut [.r] s t)

/-! ### 16-bit loads and the stack -/

/-- The 16-bit loads from an immediate, and of SP from HL, IX and IY. -/
def Obligations.LoadWord : Prop :=
  (∀ dd nn, Sets16 (.ldDdNn dd nn) (opByte (0x01 + 16 * dd.code) :: wordBytes nn) (fun t => t.pairDD dd)
    (ddParts dd) (fun _ => nn)) ∧
  (∀ nn, Sets16 (.ldIxNn nn) (0xDD :: 0x21 :: wordBytes nn) State.ix [.ix] (fun _ => nn)) ∧
  (∀ nn, Sets16 (.ldIyNn nn) (0xFD :: 0x21 :: wordBytes nn) State.iy [.iy] (fun _ => nn)) ∧
  Sets16 .ldSpHl [0xF9] State.sp [.sp] (fun s => s.hl) ∧
  Sets16 .ldSpIx [0xDD, 0xF9] State.sp [.sp] State.ix ∧
  Sets16 .ldSpIy [0xFD, 0xF9] State.sp [.sp] State.iy

/-- The 16-bit loads from memory: low byte from nn, high byte from nn + 1 modulo 65536. -/
def Obligations.LoadWordFromMemory : Prop :=
  let word (nn : Word) (s : State) : Word := joinBytes (s.readMem (nn + 1)) (s.readMem nn)
  ∀ nn,
    Sets16 (.ldHlMem nn) (0x2A :: wordBytes nn) State.hl [.reg .h, .reg .l] (word nn) ∧
    (∀ dd, Sets16 (.ldDdMem dd nn) (0xED :: opByte (0x4B + 16 * dd.code) :: wordBytes nn)
      (fun t => t.pairDD dd) (ddParts dd) (word nn)) ∧
    Sets16 (.ldIxMem nn) (0xDD :: 0x2A :: wordBytes nn) State.ix [.ix] (word nn) ∧
    Sets16 (.ldIyMem nn) (0xFD :: 0x2A :: wordBytes nn) State.iy [.iy] (word nn)

/-- The 16-bit stores: low byte to nn, high byte to nn + 1 modulo 65536, no other byte. -/
def Obligations.StoreWord : Prop :=
  ∀ nn,
    Stores16 (.ldMemHl nn) (0x22 :: wordBytes nn) nn State.hl ∧
    (∀ dd, Stores16 (.ldMemDd nn dd) (0xED :: opByte (0x43 + 16 * dd.code) :: wordBytes nn) nn
      (fun s => s.pairDD dd)) ∧
    Stores16 (.ldMemIx nn) (0xDD :: 0x22 :: wordBytes nn) nn State.ix ∧
    Stores16 (.ldMemIy nn) (0xFD :: 0x22 :: wordBytes nn) nn State.iy

/-- PUSH: high byte at SP - 1, low byte at SP - 2, SP two lower. -/
def Obligations.PushStoresWord : Prop :=
  (∀ qq, PushesReg (.pushQq qq) [opByte (0xC5 + 16 * qq.code)] (fun s => s.pairQQ qq)) ∧
  PushesReg .pushIx [0xDD, 0xE5] State.ix ∧ PushesReg .pushIy [0xFD, 0xE5] State.iy

/-- POP: low byte from SP, high byte from SP + 1, SP two higher; POP AF replaces all of F. -/
def Obligations.PopLoadsWord : Prop :=
  (∀ qq, PopsReg (.popQq qq) [opByte (0xC1 + 16 * qq.code)] (fun t => t.pairQQ qq) (qqParts qq)) ∧
  PopsReg .popIx [0xDD, 0xE1] State.ix [.ix] ∧ PopsReg .popIy [0xFD, 0xE1] State.iy [.iy]

/-- A push stores its two bytes below SP and a pop right after it restores the value, into the same pair or
another, and leaves SP as it was before the push; besides the destination, the two bytes are all that has
changed, and into the same pair they alone (R303). -/
def Obligations.PushThenPopRestores : Prop :=
  ∀ (qq qq' : PairQQ) (s : State), ∃ t u, exec (.pushQq qq) s = .next t ∧
    exec (.popQq qq') t = .next u ∧ Pushes (s.pairQQ qq) s t ∧
    u.pairQQ qq' = s.pairQQ qq ∧ u.pairQQ qq' = popped t ∧ u.sp = t.sp + 2 ∧ u.sp = s.sp ∧
    HoldsPushed (s.pairQQ qq) s u ∧ KeepsAllBut (.mem :: qqParts qq') s u ∧
    (qq' = qq → KeepsAllBut [.mem] s u)

/-! ### 8-bit arithmetic and logic -/

/-- ADD and ADC in every operand form: the sum modulo 256 in A, all eight flags. -/
def Obligations.AddAdcAccumulator : Prop :=
  ∀ o : Src8,
    (HasEncoding (aluForm .add o) (aluBytes .add o) ∧ ∀ s, ∃ t, exec (aluForm .add o) s = .next t ∧
      IsSum8 s.regs.a (o.read s) 0 t.regs.a t.flags ∧ KeepsAllBut (.reg .a :: allFlags) s t) ∧
    (HasEncoding (aluForm .adc o) (aluBytes .adc o) ∧ ∀ s, ∃ t, exec (aluForm .adc o) s = .next t ∧
      IsSum8 s.regs.a (o.read s) s.flags.c.toNat t.regs.a t.flags ∧
      KeepsAllBut (.reg .a :: allFlags) s t)

/-- SUB and SBC in every operand form: the difference modulo 256 in A, all eight flags. -/
def Obligations.SubSbcAccumulator : Prop :=
  ∀ o : Src8,
    (HasEncoding (aluForm .sub o) (aluBytes .sub o) ∧ ∀ s, ∃ t, exec (aluForm .sub o) s = .next t ∧
      IsDiff8 s.regs.a (o.read s) 0 t.regs.a t.flags ∧ KeepsAllBut (.reg .a :: allFlags) s t) ∧
    (HasEncoding (aluForm .sbc o) (aluBytes .sbc o) ∧ ∀ s, ∃ t, exec (aluForm .sbc o) s = .next t ∧
      IsDiff8 s.regs.a (o.read s) s.flags.c.toNat t.regs.a t.flags ∧
      KeepsAllBut (.reg .a :: allFlags) s t)

/-- AND and OR in every operand form: H is 1 after AND and 0 after OR, PV is the parity, C is 0. -/
def Obligations.AndOrAccumulator : Prop :=
  ∀ o : Src8,
    (HasEncoding (aluForm .and o) (aluBytes .and o) ∧ ∀ s, ∃ t, exec (aluForm .and o) s = .next t ∧
      t.regs.a = s.regs.a &&& o.read s ∧
      t.flags = resultFlags t.regs.a true (evenOnes t.regs.a) false false ∧
      KeepsAllBut (.reg .a :: allFlags) s t) ∧
    (HasEncoding (aluForm .or o) (aluBytes .or o) ∧ ∀ s, ∃ t, exec (aluForm .or o) s = .next t ∧
      t.regs.a = s.regs.a ||| o.read s ∧
      t.flags = resultFlags t.regs.a false (evenOnes t.regs.a) false false ∧
      KeepsAllBut (.reg .a :: allFlags) s t)

/-- XOR in every operand form, and CP, whose flags are those of the difference, F5 and F3 included, and which
leaves A. -/
def Obligations.XorCpAccumulator : Prop :=
  ∀ o : Src8,
    (HasEncoding (aluForm .xor o) (aluBytes .xor o) ∧ ∀ s, ∃ t, exec (aluForm .xor o) s = .next t ∧
      t.regs.a = s.regs.a ^^^ o.read s ∧
      t.flags = resultFlags t.regs.a false (evenOnes t.regs.a) false false ∧
      KeepsAllBut (.reg .a :: allFlags) s t) ∧
    (HasEncoding (aluForm .cp o) (aluBytes .cp o) ∧ ∀ s, ∃ t res, exec (aluForm .cp o) s = .next t ∧
      IsDiff8 s.regs.a (o.read s) 0 res t.flags ∧ KeepsAllBut allFlags s t)

/-- INC and DEC of a register or memory byte: C is kept, H and PV mark the nibble and the sign change. -/
def Obligations.IncDecByte : Prop :=
  ∀ l : Loc8,
    (HasEncoding (incForm l) (incDecBytes 4 l) ∧ ∀ s, ∃ t v, exec (incForm l) s = .next t ∧
      v = l.read s + 1 ∧ WritesLoc l v s t ∧
      t.flags = resultFlags v (decide ((l.read s).toNat % 16 = 15)) (decide (l.read s = 0x7F)) false
        s.flags.c ∧
      KeepsAllBut (l.part :: allFlags) s t) ∧
    (HasEncoding (decForm l) (incDecBytes 5 l) ∧ ∀ s, ∃ t v, exec (decForm l) s = .next t ∧
      v = l.read s - 1 ∧ WritesLoc l v s t ∧
      t.flags = resultFlags v (decide ((l.read s).toNat % 16 = 0)) (decide (l.read s = 0x80)) true
        s.flags.c ∧
      KeepsAllBut (l.part :: allFlags) s t)

/-! ### 16-bit arithmetic -/

/-- ADD HL,ss, ADD IX,pp and ADD IY,rr: the sum modulo 65536; H, N and C are the only flags written. -/
def Obligations.AddWord : Prop :=
  let adds (i : Instr) (bs : List Byte) (get : State → Word) (parts : List Part) (v : State → Word) : Prop :=
    HasEncoding i bs ∧ ∀ s, ∃ t, exec i s = .next t ∧
      (get t).toNat = ((get s).toNat + (v s).toNat) % 65536 ∧
      t.flags = { s.flags with
        h := decide (4096 ≤ (get s).toNat % 4096 + (v s).toNat % 4096), n := false,
        c := decide (65536 ≤ (get s).toNat + (v s).toNat) } ∧
      KeepsAllBut (parts ++ [.flagH, .flagN, .flagC]) s t
  (∀ ss, adds (.addHlSs ss) [opByte (0x09 + 16 * ss.code)] State.hl [.reg .h, .reg .l]
    (fun s => s.pairDD ss)) ∧
  (∀ pp, adds (.addIxPp pp) [0xDD, opByte (0x09 + 16 * pp.code)] State.ix [.ix] (fun s => s.pairPP pp)) ∧
  (∀ rr, adds (.addIyRr rr) [0xFD, opByte (0x09 + 16 * rr.code)] State.iy [.iy] (fun s => s.pairRR rr))

/-- ADC HL,ss and SBC HL,ss: all flags but F5 and F3, Z on all sixteen bits. -/
def Obligations.AdcSbcWord : Prop :=
  let six : List Part := [.flagS, .flagZ, .flagH, .flagPV, .flagN, .flagC]
  ∀ ss : PairDD,
    (HasEncoding (.adcHlSs ss) [0xED, opByte (0x4A + 16 * ss.code)] ∧
      ∀ s, ∃ t, exec (.adcHlSs ss) s = .next t ∧
        let a := s.hl
        let v := s.pairDD ss
        let cin := s.flags.c.toNat
        t.hl.toNat = (a.toNat + v.toNat + cin) % 65536 ∧
        t.flags = { s.flags with
          s := t.hl.getLsbD 15, z := decide (t.hl.toNat = 0),
          h := decide (4096 ≤ a.toNat % 4096 + v.toNat % 4096 + cin),
          pv := decide (a.toInt + v.toInt + cin < -32768 ∨ 32767 < a.toInt + v.toInt + cin),
          n := false, c := decide (65536 ≤ a.toNat + v.toNat + cin) } ∧
        KeepsAllBut (.reg .h :: .reg .l :: six) s t) ∧
    (HasEncoding (.sbcHlSs ss) [0xED, opByte (0x42 + 16 * ss.code)] ∧
      ∀ s, ∃ t, exec (.sbcHlSs ss) s = .next t ∧
        let a := s.hl
        let v := s.pairDD ss
        let cin := s.flags.c.toNat
        (t.hl.toNat : Int) = ((a.toNat : Int) - v.toNat - cin) % 65536 ∧
        t.flags = { s.flags with
          s := t.hl.getLsbD 15, z := decide (t.hl.toNat = 0),
          h := decide (a.toNat % 4096 < v.toNat % 4096 + cin),
          pv := decide (a.toInt - v.toInt - cin < -32768 ∨ 32767 < a.toInt - v.toInt - cin),
          n := true, c := decide (a.toNat < v.toNat + cin) } ∧
        KeepsAllBut (.reg .h :: .reg .l :: six) s t)

/-- INC and DEC of a 16-bit register: modulo 65536, and no flag. -/
def Obligations.IncDecWord : Prop :=
  (∀ ss, Sets16 (.incSs ss) [opByte (0x03 + 16 * ss.code)] (fun t => t.pairDD ss) (ddParts ss)
    (fun s => s.pairDD ss + 1)) ∧
  Sets16 .incIx [0xDD, 0x23] State.ix [.ix] (fun s => s.ix + 1) ∧
  Sets16 .incIy [0xFD, 0x23] State.iy [.iy] (fun s => s.iy + 1) ∧
  (∀ ss, Sets16 (.decSs ss) [opByte (0x0B + 16 * ss.code)] (fun t => t.pairDD ss) (ddParts ss)
    (fun s => s.pairDD ss - 1)) ∧
  Sets16 .decIx [0xDD, 0x2B] State.ix [.ix] (fun s => s.ix - 1) ∧
  Sets16 .decIy [0xFD, 0x2B] State.iy [.iy] (fun s => s.iy - 1)

/-! ### Exchanges and block instructions -/

/-- EX DE,HL, EX AF,AF' and EXX swap, change nothing else, and undo themselves. -/
def Obligations.ExchangeRegisters : Prop :=
  (HasEncoding .exDeHl [0xEB] ∧ ∀ s, ∃ t u, exec .exDeHl s = .next t ∧ t.de = s.hl ∧ t.hl = s.de ∧
    KeepsAllBut [.reg .d, .reg .e, .reg .h, .reg .l] s t ∧ exec .exDeHl t = .next u ∧ u.regs = s.regs) ∧
  (HasEncoding .exAfAf [0x08] ∧ ∀ s, ∃ t u, exec .exAfAf s = .next t ∧
    t.af = s.shadow.af ∧ t.shadow.af = s.regs.af ∧ t.shadow.bc = s.shadow.bc ∧
    t.shadow.de = s.shadow.de ∧ t.shadow.hl = s.shadow.hl ∧
    KeepsAllBut (.reg .a :: .shadow :: allFlags) s t ∧
    exec .exAfAf t = .next u ∧ u.regs = s.regs ∧ u.shadow = s.shadow) ∧
  (HasEncoding .exx [0xD9] ∧ ∀ s, ∃ t u, exec .exx s = .next t ∧
    t.bc = s.shadow.bc ∧ t.de = s.shadow.de ∧ t.hl = s.shadow.hl ∧
    t.shadow.bc = s.regs.bc ∧ t.shadow.de = s.regs.de ∧ t.shadow.hl = s.regs.hl ∧
    t.shadow.af = s.shadow.af ∧
    KeepsAllBut [.reg .b, .reg .c, .reg .d, .reg .e, .reg .h, .reg .l, .shadow] s t ∧
    exec .exx t = .next u ∧ u.regs = s.regs ∧ u.shadow = s.shadow)

/-- EX (SP),HL, EX (SP),IX and EX (SP),IY: the word on top of the stack, both of its bytes read before
either is written; SP is unchanged. -/
def Obligations.ExchangeStackTop : Prop :=
  let swaps (i : Instr) (bs : List Byte) (get : State → Word) (parts : List Part) : Prop :=
    HasEncoding i bs ∧ ∀ s, ∃ t, exec i s = .next t ∧ get t = popped s ∧ StoresWord s.sp (get s) s t ∧
      KeepsAllBut (.mem :: parts) s t
  swaps .exSpHl [0xE3] State.hl [.reg .h, .reg .l] ∧ swaps .exSpIx [0xDD, 0xE3] State.ix [.ix] ∧
    swaps .exSpIy [0xFD, 0xE3] State.iy [.iy]

/-- LDI, LDIR, LDD and LDDR, one element a step. -/
def Obligations.BlockTransfer : Prop :=
  MovesBlock .ldi 0xA0 1 false ∧ MovesBlock .ldir 0xB0 1 true ∧ MovesBlock .ldd 0xA8 (-1) false ∧
    MovesBlock .lddr 0xB8 (-1) true

/-- CPI, CPIR, CPD and CPDR, one element a step; C, F5, F3, A and memory are unchanged. -/
def Obligations.BlockSearch : Prop :=
  SearchesBlock .cpi 0xA1 1 false ∧ SearchesBlock .cpir 0xB1 1 true ∧ SearchesBlock .cpd 0xA9 (-1) false ∧
    SearchesBlock .cpdr 0xB9 (-1) true

/-! ### Rotates, shifts and bits -/

/-- RLCA, RLA, RRCA and RRA: H, N and C only. -/
def Obligations.RotateAccumulator : Prop :=
  RotatesA .rlca 0x07 (fun v _ => (2 * v + v / 128) % 256) (fun v _ => v / 128) ∧
  RotatesA .rla 0x17 (fun v c => (2 * v + c) % 256) (fun v _ => v / 128) ∧
  RotatesA .rrca 0x0F (fun v _ => v / 2 + 128 * (v % 2)) (fun v _ => v % 2) ∧
  RotatesA .rra 0x1F (fun v c => v / 2 + 128 * c) (fun v _ => v % 2)

/-- RLC and RL of a register or memory byte. -/
def Obligations.RotateLeft : Prop :=
  RotatesLoc .rlc 0 (fun v _ => (2 * v + v / 128) % 256) (fun v _ => v / 128) ∧
  RotatesLoc .rl 2 (fun v c => (2 * v + c) % 256) (fun v _ => v / 128)

/-- RRC and RR of a register or memory byte. -/
def Obligations.RotateRight : Prop :=
  RotatesLoc .rrc 1 (fun v _ => v / 2 + 128 * (v % 2)) (fun v _ => v % 2) ∧
  RotatesLoc .rr 3 (fun v c => v / 2 + 128 * c) (fun v _ => v % 2)

/-- SLA, SRA and SRL of a register or memory byte. -/
def Obligations.ShiftByte : Prop :=
  RotatesLoc .sla 4 (fun v _ => 2 * v % 256) (fun v _ => v / 128) ∧
  RotatesLoc .sra 5 (fun v _ => v / 2 + 128 * (v / 128)) (fun v _ => v % 2) ∧
  RotatesLoc .srl 7 (fun v _ => v / 2) (fun v _ => v % 2)

/-- RLD and RRD move decimal digits between A and (HL); each undoes the other. -/
def Obligations.RotateDigits : Prop :=
  (HasEncoding .rld [0xED, 0x6F] ∧ ∀ s, ∃ t u m, exec .rld s = .next t ∧
    m.toNat = (s.readMem s.hl).toNat % 16 * 16 + s.regs.a.toNat % 16 ∧ StoresByte s.hl m s t ∧
    t.regs.a.toNat = s.regs.a.toNat / 16 * 16 + (s.readMem s.hl).toNat / 16 ∧
    t.flags = resultFlags t.regs.a false (evenOnes t.regs.a) false s.flags.c ∧
    KeepsAllBut (.mem :: .reg .a :: allFlags) s t ∧
    exec .rrd t = .next u ∧ u.regs.a = s.regs.a ∧ ∀ x, u.readMem x = s.readMem x) ∧
  (HasEncoding .rrd [0xED, 0x67] ∧ ∀ s, ∃ t u m, exec .rrd s = .next t ∧
    m.toNat = s.regs.a.toNat % 16 * 16 + (s.readMem s.hl).toNat / 16 ∧ StoresByte s.hl m s t ∧
    t.regs.a.toNat = s.regs.a.toNat / 16 * 16 + (s.readMem s.hl).toNat % 16 ∧
    t.flags = resultFlags t.regs.a false (evenOnes t.regs.a) false s.flags.c ∧
    KeepsAllBut (.mem :: .reg .a :: allFlags) s t ∧
    exec .rld t = .next u ∧ u.regs.a = s.regs.a ∧ ∀ x, u.readMem x = s.readMem x)

/-- BIT: Z is the complement of the bit, H is 1, N is 0; S and PV are unspecified and the statement holds
whatever they are; C, F5, F3, registers and memory are unchanged. -/
def Obligations.TestBit : Prop :=
  ∀ (b : Fin 8) (l : Loc8), HasEncoding (bitForm b l) (cbBytes (0x40 + 8 * b.val) l) ∧
    ∀ s, ∃ t, exec (bitForm b l) s = .next t ∧
      t.flags.z = decide ((l.read s).toNat / 2 ^ b.val % 2 = 0) ∧ t.flags.h = true ∧ t.flags.n = false ∧
      KeepsAllBut [.flagS, .flagZ, .flagH, .flagPV, .flagN, .draws] s t

/-- SET and RES: the one bit of the operand, the other seven and all of F unchanged. -/
def Obligations.SetResetBit : Prop :=
  ∀ (b : Fin 8) (l : Loc8),
    (HasEncoding (setForm b l) (cbBytes (0xC0 + 8 * b.val) l) ∧ ∀ s, ∃ t v,
      exec (setForm b l) s = .next t ∧
      (∀ k, k < 8 → v.getLsbD k = if k = b.val then true else (l.read s).getLsbD k) ∧
      WritesLoc l v s t ∧ KeepsAllBut [l.part] s t) ∧
    (HasEncoding (resForm b l) (cbBytes (0x80 + 8 * b.val) l) ∧ ∀ s, ∃ t v,
      exec (resForm b l) s = .next t ∧
      (∀ k, k < 8 → v.getLsbD k = if k = b.val then false else (l.read s).getLsbD k) ∧
      WritesLoc l v s t ∧ KeepsAllBut [l.part] s t)

/-! ### Jumps, calls and returns -/

/-- JP, JR and DJNZ in every form. -/
def Obligations.Jumps : Prop :=
  (∀ nn, JumpsTo (.jpNn nn) (0xC3 :: wordBytes nn) (fun _ => nn)) ∧
  (∀ cc nn, JumpsTo (.jpCcNn cc nn) (opByte (0xC2 + 8 * cc.code) :: wordBytes nn)
    (fun s => if condTrue cc s.regs.f then nn else s.pc)) ∧
  (∀ e, JumpsRelative (.jrE e) [0x18, e] e (fun _ => true)) ∧
  (∀ e, JumpsRelative (.jrC e) [0x38, e] e (fun f => f.getLsbD 0)) ∧
  (∀ e, JumpsRelative (.jrNc e) [0x30, e] e (fun f => !f.getLsbD 0)) ∧
  (∀ e, JumpsRelative (.jrZ e) [0x28, e] e (fun f => f.getLsbD 6)) ∧
  (∀ e, JumpsRelative (.jrNz e) [0x20, e] e (fun f => !f.getLsbD 6)) ∧
  JumpsTo .jpHl [0xE9] State.hl ∧ JumpsTo .jpIx [0xDD, 0xE9] State.ix ∧
  JumpsTo .jpIy [0xFD, 0xE9] State.iy ∧
  (∀ e, HasEncoding (.djnz e) [0x10, e] ∧ ∀ s, ∃ t, exec (.djnz e) s = .next t ∧
    t.reg .b = s.reg .b - 1 ∧ (if s.reg .b = 1 then t.pc = s.pc else IsOffset s.pc e t.pc) ∧
    KeepsAllBut [.reg .b, .pc] s t)

/-- CALL nn, CALL cc,nn and RST p. -/
def Obligations.Calls : Prop :=
  (∀ nn, CallsTo (.callNn nn) (0xCD :: wordBytes nn) nn (fun _ => true)) ∧
  (∀ cc nn, CallsTo (.callCcNn cc nn) (opByte (0xC4 + 8 * cc.code) :: wordBytes nn) nn (condTrue cc)) ∧
  (∀ t : Fin 8, CallsTo (.rst t) [opByte (0xC7 + 8 * t.val)] (BitVec.ofNat 16 (8 * t.val)) (fun _ => true))

/-- RET, RET cc, RETI, which leaves IFF1, and RETN, which copies IFF2 to IFF1. -/
def Obligations.ReturnsPopPC : Prop :=
  Returns .ret [0xC9] (fun _ => true) State.iff1 ∧
  (∀ cc, Returns (.retCc cc) [opByte (0xC0 + 8 * cc.code)] (condTrue cc) State.iff1) ∧
  Returns .reti [0xED, 0x4D] (fun _ => true) State.iff1 ∧
  Returns .retn [0xED, 0x45] (fun _ => true) State.iff2

/-- A call or restart, or a conditional call that is taken, pushes the address of the next instruction, and a
return right after it, a taken conditional one, RETI or RETN among them, goes there, with SP as before. Nothing
else has changed but the two bytes of the stack and, by RETN, IFF1 (R1320, R1328). -/
def Obligations.CallThenReturn : Prop :=
  ∀ (i r : Instr) (s : State), callsUnder s.regs.f i = true → returnsUnder s.regs.f r = true →
    ∃ t u, exec i s = .next t ∧ Pushes s.pc s t ∧ exec r t = .next u ∧ u.pc = s.pc ∧ u.sp = s.sp ∧
      HoldsPushed s.pc s u ∧ u.iff1 = (if r = .retn then s.iff2 else s.iff1) ∧
      KeepsAllBut [.mem, .iff1] s u

/-! ### Input and output -/

/-- IN A,(n), IN r,(C), OUT (n),A and OUT (C),r. -/
def Obligations.InputOutput : Prop :=
  (∀ n, HasEncoding (.inAN n) [0xDB, n] ∧ ∀ s, ∃ t, exec (.inAN n) s = .next t ∧
    t.reg .a = s.readPort (joinBytes s.regs.a n) ∧ KeepsAllBut [.reg .a] s t) ∧
  (∀ r, HasEncoding (.inRC r) [0xED, opByte (0x40 + 8 * r.code)] ∧ ∀ s, ∃ t,
    exec (.inRC r) s = .next t ∧
    let v := s.readPort (joinBytes s.regs.b s.regs.c)
    t.reg r = v ∧ t.flags = resultFlags v false (evenOnes v) false s.flags.c ∧
    KeepsAllBut (.reg r :: allFlags) s t) ∧
  (∀ n, HasEncoding (.outNA n) [0xD3, n] ∧ ∀ s, ∃ t, exec (.outNA n) s = .next t ∧
    WritesPort (joinBytes s.regs.a n) s.regs.a s t ∧ KeepsAllBut [.port] s t) ∧
  (∀ r, HasEncoding (.outCR r) [0xED, opByte (0x41 + 8 * r.code)] ∧ ∀ s, ∃ t,
    exec (.outCR r) s = .next t ∧ WritesPort (joinBytes s.regs.b s.regs.c) (s.reg r) s t ∧
    KeepsAllBut [.port] s t)

/-- INI, INIR, IND and INDR, one element a step: B counts, and is in the port address before the
decrement. -/
def Obligations.BlockInput : Prop :=
  InputsBlock .ini 0xA2 1 false ∧ InputsBlock .inir 0xB2 1 true ∧ InputsBlock .ind 0xAA (-1) false ∧
    InputsBlock .indr 0xBA (-1) true

/-- OUTI, OTIR, OUTD and OTDR, one element a step: B counts, and is in the port address after the
decrement. -/
def Obligations.BlockOutput : Prop :=
  OutputsBlock .outi 0xA3 1 false ∧ OutputsBlock .otir 0xB3 1 true ∧ OutputsBlock .outd 0xAB (-1) false ∧
    OutputsBlock .otdr 0xBB (-1) true

/-! ### Accumulator and control -/

/-- DAA, CPL, NEG, CCF and SCF. -/
def Obligations.AdjustAccumulator : Prop :=
  (HasEncoding .daa [0x27] ∧ ∀ s, ∃ t, exec .daa s = .next t ∧
    let a := s.regs.a.toNat
    let low := s.flags.h = true ∨ 9 < a % 16
    let high := s.flags.c = true ∨ 0x99 < a
    let corr : Nat := (if low then 0x06 else 0) + (if high then 0x60 else 0)
    (t.regs.a.toNat : Int) = (if s.flags.n then (a : Int) - corr else a + corr) % 256 ∧
    t.flags = resultFlags t.regs.a
      (if s.flags.n then s.flags.h && decide (a % 16 < 6) else decide (9 < a % 16))
      (evenOnes t.regs.a) s.flags.n (decide high) ∧
    KeepsAllBut (.reg .a :: allFlags) s t) ∧
  (HasEncoding .cpl [0x2F] ∧ ∀ s, ∃ t, exec .cpl s = .next t ∧ t.regs.a.toNat = 255 - s.regs.a.toNat ∧
    t.flags = { s.flags with h := true, n := true } ∧ KeepsAllBut [.reg .a, .flagH, .flagN] s t) ∧
  (HasEncoding .neg [0xED, 0x44] ∧ ∀ s, ∃ t, exec .neg s = .next t ∧
    t.regs.a.toNat = (256 - s.regs.a.toNat) % 256 ∧
    t.flags = resultFlags t.regs.a (decide (s.regs.a.toNat % 16 ≠ 0)) (decide (s.regs.a = 0x80)) true
      (decide (s.regs.a ≠ 0)) ∧
    KeepsAllBut (.reg .a :: allFlags) s t) ∧
  (HasEncoding .ccf [0x3F] ∧ ∀ s, ∃ t, exec .ccf s = .next t ∧
    t.flags = { s.flags with h := s.flags.c, n := false, c := !s.flags.c } ∧
    KeepsAllBut [.flagH, .flagN, .flagC] s t) ∧
  (HasEncoding .scf [0x37] ∧ ∀ s, ∃ t, exec .scf s = .next t ∧
    t.flags = { s.flags with h := false, n := false, c := true } ∧
    KeepsAllBut [.flagH, .flagN, .flagC] s t)

/-- NOP, HALT, DI, EI, IM 0, IM 1 and IM 2. -/
def Obligations.ControlInstructions : Prop :=
  (HasEncoding .nop [0x00] ∧ ∀ s, ∃ t, exec .nop s = .next t ∧ KeepsAllBut [] s t) ∧
  (HasEncoding .halt [0x76] ∧ ∀ s, ∃ t, exec .halt s = .next t ∧ t.halt = true ∧
    KeepsAllBut [.halt] s t) ∧
  (HasEncoding .di [0xF3] ∧ ∀ s, ∃ t, exec .di s = .next t ∧ t.iff1 = false ∧ t.iff2 = false ∧
    KeepsAllBut [.iff1, .iff2] s t) ∧
  (HasEncoding .ei [0xFB] ∧ ∀ s, ∃ t, exec .ei s = .next t ∧ t.iff1 = true ∧ t.iff2 = true ∧
    KeepsAllBut [.iff1, .iff2] s t) ∧
  (HasEncoding .im0 [0xED, 0x46] ∧ ∀ s, ∃ t, exec .im0 s = .next t ∧ t.im = .im0 ∧
    KeepsAllBut [.im] s t) ∧
  (HasEncoding .im1 [0xED, 0x56] ∧ ∀ s, ∃ t, exec .im1 s = .next t ∧ t.im = .im1 ∧
    KeepsAllBut [.im] s t) ∧
  (HasEncoding .im2 [0xED, 0x5E] ∧ ∀ s, ∃ t, exec .im2 s = .next t ∧ t.im = .im2 ∧
    KeepsAllBut [.im] s t)

/-- Packed BCD addition: ADD A,n of two bytes with decimal digits, then DAA, gives their decimal sum modulo
100 with the hundred in C. -/
def Obligations.DaaAddsDecimal : Prop :=
  ∀ (s : State) (n : Byte) (x y : Nat), x < 100 → y < 100 →
    s.regs.a.toNat = x / 10 * 16 + x % 10 → n.toNat = y / 10 * 16 + y % 10 →
    ∃ t u, exec (.addAN n) s = .next t ∧ exec .daa t = .next u ∧
      u.regs.a.toNat = (x + y) % 100 / 10 * 16 + (x + y) % 10 ∧
      u.flags.c = decide (100 ≤ x + y)
end

