-- ==== Sys2Proof/Laws/State.lean ====
section
/-! SUPPORT. One lemma per field per update, so that no proof unfolds a record update: first the updates of
a register set, then those of the state. Every lemma is true by definition. -/

namespace Sys2Proof.Machine

section RegSetUpdates
variable (rs : RegSet) (v : Word)
@[simp] theorem RegSet.setBC_a : (rs.setBC v).a = rs.a := rfl
@[simp] theorem RegSet.setBC_f : (rs.setBC v).f = rs.f := rfl
@[simp] theorem RegSet.setBC_b : (rs.setBC v).b = hiByte v := rfl
@[simp] theorem RegSet.setBC_c : (rs.setBC v).c = loByte v := rfl
@[simp] theorem RegSet.setBC_d : (rs.setBC v).d = rs.d := rfl
@[simp] theorem RegSet.setBC_e : (rs.setBC v).e = rs.e := rfl
@[simp] theorem RegSet.setBC_h : (rs.setBC v).h = rs.h := rfl
@[simp] theorem RegSet.setBC_l : (rs.setBC v).l = rs.l := rfl
@[simp] theorem RegSet.setDE_a : (rs.setDE v).a = rs.a := rfl
@[simp] theorem RegSet.setDE_f : (rs.setDE v).f = rs.f := rfl
@[simp] theorem RegSet.setDE_b : (rs.setDE v).b = rs.b := rfl
@[simp] theorem RegSet.setDE_c : (rs.setDE v).c = rs.c := rfl
@[simp] theorem RegSet.setDE_d : (rs.setDE v).d = hiByte v := rfl
@[simp] theorem RegSet.setDE_e : (rs.setDE v).e = loByte v := rfl
@[simp] theorem RegSet.setDE_h : (rs.setDE v).h = rs.h := rfl
@[simp] theorem RegSet.setDE_l : (rs.setDE v).l = rs.l := rfl
@[simp] theorem RegSet.setHL_a : (rs.setHL v).a = rs.a := rfl
@[simp] theorem RegSet.setHL_f : (rs.setHL v).f = rs.f := rfl
@[simp] theorem RegSet.setHL_b : (rs.setHL v).b = rs.b := rfl
@[simp] theorem RegSet.setHL_c : (rs.setHL v).c = rs.c := rfl
@[simp] theorem RegSet.setHL_d : (rs.setHL v).d = rs.d := rfl
@[simp] theorem RegSet.setHL_e : (rs.setHL v).e = rs.e := rfl
@[simp] theorem RegSet.setHL_h : (rs.setHL v).h = hiByte v := rfl
@[simp] theorem RegSet.setHL_l : (rs.setHL v).l = loByte v := rfl
@[simp] theorem RegSet.setAF_a : (rs.setAF v).a = hiByte v := rfl
@[simp] theorem RegSet.setAF_f : (rs.setAF v).f = loByte v := rfl
@[simp] theorem RegSet.setAF_b : (rs.setAF v).b = rs.b := rfl
@[simp] theorem RegSet.setAF_c : (rs.setAF v).c = rs.c := rfl
@[simp] theorem RegSet.setAF_d : (rs.setAF v).d = rs.d := rfl
@[simp] theorem RegSet.setAF_e : (rs.setAF v).e = rs.e := rfl
@[simp] theorem RegSet.setAF_h : (rs.setAF v).h = rs.h := rfl
@[simp] theorem RegSet.setAF_l : (rs.setAF v).l = rs.l := rfl
end RegSetUpdates

theorem RegSet.get_set (rs : RegSet) (x y : Reg8) (v : Byte) :
    (rs.set x v).get y = if y = x then v else rs.get y := by
  cases x <;> cases y <;> rfl

@[simp] theorem RegSet.set_f (rs : RegSet) (x : Reg8) (v : Byte) : (rs.set x v).f = rs.f := by
  cases x <;> rfl

section SetReg
variable (s : State) (r : Reg8) (v : Byte)
@[simp] theorem State.setReg_regs : (s.setReg r v).regs = s.regs.set r v := rfl
@[simp] theorem State.setReg_shadow : (s.setReg r v).shadow = s.shadow := rfl
@[simp] theorem State.setReg_ix : (s.setReg r v).ix = s.ix := rfl
@[simp] theorem State.setReg_iy : (s.setReg r v).iy = s.iy := rfl
@[simp] theorem State.setReg_sp : (s.setReg r v).sp = s.sp := rfl
@[simp] theorem State.setReg_pc : (s.setReg r v).pc = s.pc := rfl
@[simp] theorem State.setReg_i : (s.setReg r v).i = s.i := rfl
@[simp] theorem State.setReg_r : (s.setReg r v).r = s.r := rfl
@[simp] theorem State.setReg_iff1 : (s.setReg r v).iff1 = s.iff1 := rfl
@[simp] theorem State.setReg_iff2 : (s.setReg r v).iff2 = s.iff2 := rfl
@[simp] theorem State.setReg_im : (s.setReg r v).im = s.im := rfl
@[simp] theorem State.setReg_halt : (s.setReg r v).halt = s.halt := rfl
@[simp] theorem State.setReg_mem : (s.setReg r v).mem = s.mem := rfl
@[simp] theorem State.setReg_port : (s.setReg r v).port = s.port := rfl
@[simp] theorem State.setReg_tCycles : (s.setReg r v).tCycles = s.tCycles := rfl
@[simp] theorem State.setReg_unimplSeen : (s.setReg r v).unimplSeen = s.unimplSeen := rfl
@[simp] theorem State.setReg_diag : (s.setReg r v).diag = s.diag := rfl
@[simp] theorem State.setReg_draws : (s.setReg r v).draws = s.draws := rfl
end SetReg

section SetA
variable (s : State) (v : Byte)
@[simp] theorem State.setA_regs : (s.setA v).regs = { s.regs with a := v } := rfl
@[simp] theorem State.setA_shadow : (s.setA v).shadow = s.shadow := rfl
@[simp] theorem State.setA_ix : (s.setA v).ix = s.ix := rfl
@[simp] theorem State.setA_iy : (s.setA v).iy = s.iy := rfl
@[simp] theorem State.setA_sp : (s.setA v).sp = s.sp := rfl
@[simp] theorem State.setA_pc : (s.setA v).pc = s.pc := rfl
@[simp] theorem State.setA_i : (s.setA v).i = s.i := rfl
@[simp] theorem State.setA_r : (s.setA v).r = s.r := rfl
@[simp] theorem State.setA_iff1 : (s.setA v).iff1 = s.iff1 := rfl
@[simp] theorem State.setA_iff2 : (s.setA v).iff2 = s.iff2 := rfl
@[simp] theorem State.setA_im : (s.setA v).im = s.im := rfl
@[simp] theorem State.setA_halt : (s.setA v).halt = s.halt := rfl
@[simp] theorem State.setA_mem : (s.setA v).mem = s.mem := rfl
@[simp] theorem State.setA_port : (s.setA v).port = s.port := rfl
@[simp] theorem State.setA_tCycles : (s.setA v).tCycles = s.tCycles := rfl
@[simp] theorem State.setA_unimplSeen : (s.setA v).unimplSeen = s.unimplSeen := rfl
@[simp] theorem State.setA_diag : (s.setA v).diag = s.diag := rfl
@[simp] theorem State.setA_draws : (s.setA v).draws = s.draws := rfl
end SetA

section SetB
variable (s : State) (v : Byte)
@[simp] theorem State.setB_regs : (s.setB v).regs = { s.regs with b := v } := rfl
@[simp] theorem State.setB_shadow : (s.setB v).shadow = s.shadow := rfl
@[simp] theorem State.setB_ix : (s.setB v).ix = s.ix := rfl
@[simp] theorem State.setB_iy : (s.setB v).iy = s.iy := rfl
@[simp] theorem State.setB_sp : (s.setB v).sp = s.sp := rfl
@[simp] theorem State.setB_pc : (s.setB v).pc = s.pc := rfl
@[simp] theorem State.setB_i : (s.setB v).i = s.i := rfl
@[simp] theorem State.setB_r : (s.setB v).r = s.r := rfl
@[simp] theorem State.setB_iff1 : (s.setB v).iff1 = s.iff1 := rfl
@[simp] theorem State.setB_iff2 : (s.setB v).iff2 = s.iff2 := rfl
@[simp] theorem State.setB_im : (s.setB v).im = s.im := rfl
@[simp] theorem State.setB_halt : (s.setB v).halt = s.halt := rfl
@[simp] theorem State.setB_mem : (s.setB v).mem = s.mem := rfl
@[simp] theorem State.setB_port : (s.setB v).port = s.port := rfl
@[simp] theorem State.setB_tCycles : (s.setB v).tCycles = s.tCycles := rfl
@[simp] theorem State.setB_unimplSeen : (s.setB v).unimplSeen = s.unimplSeen := rfl
@[simp] theorem State.setB_diag : (s.setB v).diag = s.diag := rfl
@[simp] theorem State.setB_draws : (s.setB v).draws = s.draws := rfl
end SetB

section SetBC
variable (s : State) (v : Word)
@[simp] theorem State.setBC_regs : (s.setBC v).regs = s.regs.setBC v := rfl
@[simp] theorem State.setBC_shadow : (s.setBC v).shadow = s.shadow := rfl
@[simp] theorem State.setBC_ix : (s.setBC v).ix = s.ix := rfl
@[simp] theorem State.setBC_iy : (s.setBC v).iy = s.iy := rfl
@[simp] theorem State.setBC_sp : (s.setBC v).sp = s.sp := rfl
@[simp] theorem State.setBC_pc : (s.setBC v).pc = s.pc := rfl
@[simp] theorem State.setBC_i : (s.setBC v).i = s.i := rfl
@[simp] theorem State.setBC_r : (s.setBC v).r = s.r := rfl
@[simp] theorem State.setBC_iff1 : (s.setBC v).iff1 = s.iff1 := rfl
@[simp] theorem State.setBC_iff2 : (s.setBC v).iff2 = s.iff2 := rfl
@[simp] theorem State.setBC_im : (s.setBC v).im = s.im := rfl
@[simp] theorem State.setBC_halt : (s.setBC v).halt = s.halt := rfl
@[simp] theorem State.setBC_mem : (s.setBC v).mem = s.mem := rfl
@[simp] theorem State.setBC_port : (s.setBC v).port = s.port := rfl
@[simp] theorem State.setBC_tCycles : (s.setBC v).tCycles = s.tCycles := rfl
@[simp] theorem State.setBC_unimplSeen : (s.setBC v).unimplSeen = s.unimplSeen := rfl
@[simp] theorem State.setBC_diag : (s.setBC v).diag = s.diag := rfl
@[simp] theorem State.setBC_draws : (s.setBC v).draws = s.draws := rfl
end SetBC

section SetDE
variable (s : State) (v : Word)
@[simp] theorem State.setDE_regs : (s.setDE v).regs = s.regs.setDE v := rfl
@[simp] theorem State.setDE_shadow : (s.setDE v).shadow = s.shadow := rfl
@[simp] theorem State.setDE_ix : (s.setDE v).ix = s.ix := rfl
@[simp] theorem State.setDE_iy : (s.setDE v).iy = s.iy := rfl
@[simp] theorem State.setDE_sp : (s.setDE v).sp = s.sp := rfl
@[simp] theorem State.setDE_pc : (s.setDE v).pc = s.pc := rfl
@[simp] theorem State.setDE_i : (s.setDE v).i = s.i := rfl
@[simp] theorem State.setDE_r : (s.setDE v).r = s.r := rfl
@[simp] theorem State.setDE_iff1 : (s.setDE v).iff1 = s.iff1 := rfl
@[simp] theorem State.setDE_iff2 : (s.setDE v).iff2 = s.iff2 := rfl
@[simp] theorem State.setDE_im : (s.setDE v).im = s.im := rfl
@[simp] theorem State.setDE_halt : (s.setDE v).halt = s.halt := rfl
@[simp] theorem State.setDE_mem : (s.setDE v).mem = s.mem := rfl
@[simp] theorem State.setDE_port : (s.setDE v).port = s.port := rfl
@[simp] theorem State.setDE_tCycles : (s.setDE v).tCycles = s.tCycles := rfl
@[simp] theorem State.setDE_unimplSeen : (s.setDE v).unimplSeen = s.unimplSeen := rfl
@[simp] theorem State.setDE_diag : (s.setDE v).diag = s.diag := rfl
@[simp] theorem State.setDE_draws : (s.setDE v).draws = s.draws := rfl
end SetDE

section SetHL
variable (s : State) (v : Word)
@[simp] theorem State.setHL_regs : (s.setHL v).regs = s.regs.setHL v := rfl
@[simp] theorem State.setHL_shadow : (s.setHL v).shadow = s.shadow := rfl
@[simp] theorem State.setHL_ix : (s.setHL v).ix = s.ix := rfl
@[simp] theorem State.setHL_iy : (s.setHL v).iy = s.iy := rfl
@[simp] theorem State.setHL_sp : (s.setHL v).sp = s.sp := rfl
@[simp] theorem State.setHL_pc : (s.setHL v).pc = s.pc := rfl
@[simp] theorem State.setHL_i : (s.setHL v).i = s.i := rfl
@[simp] theorem State.setHL_r : (s.setHL v).r = s.r := rfl
@[simp] theorem State.setHL_iff1 : (s.setHL v).iff1 = s.iff1 := rfl
@[simp] theorem State.setHL_iff2 : (s.setHL v).iff2 = s.iff2 := rfl
@[simp] theorem State.setHL_im : (s.setHL v).im = s.im := rfl
@[simp] theorem State.setHL_halt : (s.setHL v).halt = s.halt := rfl
@[simp] theorem State.setHL_mem : (s.setHL v).mem = s.mem := rfl
@[simp] theorem State.setHL_port : (s.setHL v).port = s.port := rfl
@[simp] theorem State.setHL_tCycles : (s.setHL v).tCycles = s.tCycles := rfl
@[simp] theorem State.setHL_unimplSeen : (s.setHL v).unimplSeen = s.unimplSeen := rfl
@[simp] theorem State.setHL_diag : (s.setHL v).diag = s.diag := rfl
@[simp] theorem State.setHL_draws : (s.setHL v).draws = s.draws := rfl
end SetHL

section SetAF
variable (s : State) (v : Word)
@[simp] theorem State.setAF_regs : (s.setAF v).regs = s.regs.setAF v := rfl
@[simp] theorem State.setAF_shadow : (s.setAF v).shadow = s.shadow := rfl
@[simp] theorem State.setAF_ix : (s.setAF v).ix = s.ix := rfl
@[simp] theorem State.setAF_iy : (s.setAF v).iy = s.iy := rfl
@[simp] theorem State.setAF_sp : (s.setAF v).sp = s.sp := rfl
@[simp] theorem State.setAF_pc : (s.setAF v).pc = s.pc := rfl
@[simp] theorem State.setAF_i : (s.setAF v).i = s.i := rfl
@[simp] theorem State.setAF_r : (s.setAF v).r = s.r := rfl
@[simp] theorem State.setAF_iff1 : (s.setAF v).iff1 = s.iff1 := rfl
@[simp] theorem State.setAF_iff2 : (s.setAF v).iff2 = s.iff2 := rfl
@[simp] theorem State.setAF_im : (s.setAF v).im = s.im := rfl
@[simp] theorem State.setAF_halt : (s.setAF v).halt = s.halt := rfl
@[simp] theorem State.setAF_mem : (s.setAF v).mem = s.mem := rfl
@[simp] theorem State.setAF_port : (s.setAF v).port = s.port := rfl
@[simp] theorem State.setAF_tCycles : (s.setAF v).tCycles = s.tCycles := rfl
@[simp] theorem State.setAF_unimplSeen : (s.setAF v).unimplSeen = s.unimplSeen := rfl
@[simp] theorem State.setAF_diag : (s.setAF v).diag = s.diag := rfl
@[simp] theorem State.setAF_draws : (s.setAF v).draws = s.draws := rfl
end SetAF

section SetFlags
variable (s : State) (fl : Flags)
@[simp] theorem State.setFlags_regs : (s.setFlags fl).regs = { s.regs with f := fl.toByte } := rfl
@[simp] theorem State.setFlags_shadow : (s.setFlags fl).shadow = s.shadow := rfl
@[simp] theorem State.setFlags_ix : (s.setFlags fl).ix = s.ix := rfl
@[simp] theorem State.setFlags_iy : (s.setFlags fl).iy = s.iy := rfl
@[simp] theorem State.setFlags_sp : (s.setFlags fl).sp = s.sp := rfl
@[simp] theorem State.setFlags_pc : (s.setFlags fl).pc = s.pc := rfl
@[simp] theorem State.setFlags_i : (s.setFlags fl).i = s.i := rfl
@[simp] theorem State.setFlags_r : (s.setFlags fl).r = s.r := rfl
@[simp] theorem State.setFlags_iff1 : (s.setFlags fl).iff1 = s.iff1 := rfl
@[simp] theorem State.setFlags_iff2 : (s.setFlags fl).iff2 = s.iff2 := rfl
@[simp] theorem State.setFlags_im : (s.setFlags fl).im = s.im := rfl
@[simp] theorem State.setFlags_halt : (s.setFlags fl).halt = s.halt := rfl
@[simp] theorem State.setFlags_mem : (s.setFlags fl).mem = s.mem := rfl
@[simp] theorem State.setFlags_port : (s.setFlags fl).port = s.port := rfl
@[simp] theorem State.setFlags_tCycles : (s.setFlags fl).tCycles = s.tCycles := rfl
@[simp] theorem State.setFlags_unimplSeen : (s.setFlags fl).unimplSeen = s.unimplSeen := rfl
@[simp] theorem State.setFlags_diag : (s.setFlags fl).diag = s.diag := rfl
@[simp] theorem State.setFlags_draws : (s.setFlags fl).draws = s.draws := rfl
end SetFlags

section SetRegSets
variable (s : State) (x y : RegSet)
@[simp] theorem State.setRegSets_regs : (s.setRegSets x y).regs = x := rfl
@[simp] theorem State.setRegSets_shadow : (s.setRegSets x y).shadow = y := rfl
@[simp] theorem State.setRegSets_ix : (s.setRegSets x y).ix = s.ix := rfl
@[simp] theorem State.setRegSets_iy : (s.setRegSets x y).iy = s.iy := rfl
@[simp] theorem State.setRegSets_sp : (s.setRegSets x y).sp = s.sp := rfl
@[simp] theorem State.setRegSets_pc : (s.setRegSets x y).pc = s.pc := rfl
@[simp] theorem State.setRegSets_i : (s.setRegSets x y).i = s.i := rfl
@[simp] theorem State.setRegSets_r : (s.setRegSets x y).r = s.r := rfl
@[simp] theorem State.setRegSets_iff1 : (s.setRegSets x y).iff1 = s.iff1 := rfl
@[simp] theorem State.setRegSets_iff2 : (s.setRegSets x y).iff2 = s.iff2 := rfl
@[simp] theorem State.setRegSets_im : (s.setRegSets x y).im = s.im := rfl
@[simp] theorem State.setRegSets_halt : (s.setRegSets x y).halt = s.halt := rfl
@[simp] theorem State.setRegSets_mem : (s.setRegSets x y).mem = s.mem := rfl
@[simp] theorem State.setRegSets_port : (s.setRegSets x y).port = s.port := rfl
@[simp] theorem State.setRegSets_tCycles : (s.setRegSets x y).tCycles = s.tCycles := rfl
@[simp] theorem State.setRegSets_unimplSeen : (s.setRegSets x y).unimplSeen = s.unimplSeen := rfl
@[simp] theorem State.setRegSets_diag : (s.setRegSets x y).diag = s.diag := rfl
@[simp] theorem State.setRegSets_draws : (s.setRegSets x y).draws = s.draws := rfl
end SetRegSets

section SetIX
variable (s : State) (v : Word)
@[simp] theorem State.setIX_regs : (s.setIX v).regs = s.regs := rfl
@[simp] theorem State.setIX_shadow : (s.setIX v).shadow = s.shadow := rfl
@[simp] theorem State.setIX_ix : (s.setIX v).ix = v := rfl
@[simp] theorem State.setIX_iy : (s.setIX v).iy = s.iy := rfl
@[simp] theorem State.setIX_sp : (s.setIX v).sp = s.sp := rfl
@[simp] theorem State.setIX_pc : (s.setIX v).pc = s.pc := rfl
@[simp] theorem State.setIX_i : (s.setIX v).i = s.i := rfl
@[simp] theorem State.setIX_r : (s.setIX v).r = s.r := rfl
@[simp] theorem State.setIX_iff1 : (s.setIX v).iff1 = s.iff1 := rfl
@[simp] theorem State.setIX_iff2 : (s.setIX v).iff2 = s.iff2 := rfl
@[simp] theorem State.setIX_im : (s.setIX v).im = s.im := rfl
@[simp] theorem State.setIX_halt : (s.setIX v).halt = s.halt := rfl
@[simp] theorem State.setIX_mem : (s.setIX v).mem = s.mem := rfl
@[simp] theorem State.setIX_port : (s.setIX v).port = s.port := rfl
@[simp] theorem State.setIX_tCycles : (s.setIX v).tCycles = s.tCycles := rfl
@[simp] theorem State.setIX_unimplSeen : (s.setIX v).unimplSeen = s.unimplSeen := rfl
@[simp] theorem State.setIX_diag : (s.setIX v).diag = s.diag := rfl
@[simp] theorem State.setIX_draws : (s.setIX v).draws = s.draws := rfl
end SetIX

section SetIY
variable (s : State) (v : Word)
@[simp] theorem State.setIY_regs : (s.setIY v).regs = s.regs := rfl
@[simp] theorem State.setIY_shadow : (s.setIY v).shadow = s.shadow := rfl
@[simp] theorem State.setIY_ix : (s.setIY v).ix = s.ix := rfl
@[simp] theorem State.setIY_iy : (s.setIY v).iy = v := rfl
@[simp] theorem State.setIY_sp : (s.setIY v).sp = s.sp := rfl
@[simp] theorem State.setIY_pc : (s.setIY v).pc = s.pc := rfl
@[simp] theorem State.setIY_i : (s.setIY v).i = s.i := rfl
@[simp] theorem State.setIY_r : (s.setIY v).r = s.r := rfl
@[simp] theorem State.setIY_iff1 : (s.setIY v).iff1 = s.iff1 := rfl
@[simp] theorem State.setIY_iff2 : (s.setIY v).iff2 = s.iff2 := rfl
@[simp] theorem State.setIY_im : (s.setIY v).im = s.im := rfl
@[simp] theorem State.setIY_halt : (s.setIY v).halt = s.halt := rfl
@[simp] theorem State.setIY_mem : (s.setIY v).mem = s.mem := rfl
@[simp] theorem State.setIY_port : (s.setIY v).port = s.port := rfl
@[simp] theorem State.setIY_tCycles : (s.setIY v).tCycles = s.tCycles := rfl
@[simp] theorem State.setIY_unimplSeen : (s.setIY v).unimplSeen = s.unimplSeen := rfl
@[simp] theorem State.setIY_diag : (s.setIY v).diag = s.diag := rfl
@[simp] theorem State.setIY_draws : (s.setIY v).draws = s.draws := rfl
end SetIY

section SetSP
variable (s : State) (v : Word)
@[simp] theorem State.setSP_regs : (s.setSP v).regs = s.regs := rfl
@[simp] theorem State.setSP_shadow : (s.setSP v).shadow = s.shadow := rfl
@[simp] theorem State.setSP_ix : (s.setSP v).ix = s.ix := rfl
@[simp] theorem State.setSP_iy : (s.setSP v).iy = s.iy := rfl
@[simp] theorem State.setSP_sp : (s.setSP v).sp = v := rfl
@[simp] theorem State.setSP_pc : (s.setSP v).pc = s.pc := rfl
@[simp] theorem State.setSP_i : (s.setSP v).i = s.i := rfl
@[simp] theorem State.setSP_r : (s.setSP v).r = s.r := rfl
@[simp] theorem State.setSP_iff1 : (s.setSP v).iff1 = s.iff1 := rfl
@[simp] theorem State.setSP_iff2 : (s.setSP v).iff2 = s.iff2 := rfl
@[simp] theorem State.setSP_im : (s.setSP v).im = s.im := rfl
@[simp] theorem State.setSP_halt : (s.setSP v).halt = s.halt := rfl
@[simp] theorem State.setSP_mem : (s.setSP v).mem = s.mem := rfl
@[simp] theorem State.setSP_port : (s.setSP v).port = s.port := rfl
@[simp] theorem State.setSP_tCycles : (s.setSP v).tCycles = s.tCycles := rfl
@[simp] theorem State.setSP_unimplSeen : (s.setSP v).unimplSeen = s.unimplSeen := rfl
@[simp] theorem State.setSP_diag : (s.setSP v).diag = s.diag := rfl
@[simp] theorem State.setSP_draws : (s.setSP v).draws = s.draws := rfl
end SetSP

section SetPC
variable (s : State) (v : Word)
@[simp] theorem State.setPC_regs : (s.setPC v).regs = s.regs := rfl
@[simp] theorem State.setPC_shadow : (s.setPC v).shadow = s.shadow := rfl
@[simp] theorem State.setPC_ix : (s.setPC v).ix = s.ix := rfl
@[simp] theorem State.setPC_iy : (s.setPC v).iy = s.iy := rfl
@[simp] theorem State.setPC_sp : (s.setPC v).sp = s.sp := rfl
@[simp] theorem State.setPC_pc : (s.setPC v).pc = v := rfl
@[simp] theorem State.setPC_i : (s.setPC v).i = s.i := rfl
@[simp] theorem State.setPC_r : (s.setPC v).r = s.r := rfl
@[simp] theorem State.setPC_iff1 : (s.setPC v).iff1 = s.iff1 := rfl
@[simp] theorem State.setPC_iff2 : (s.setPC v).iff2 = s.iff2 := rfl
@[simp] theorem State.setPC_im : (s.setPC v).im = s.im := rfl
@[simp] theorem State.setPC_halt : (s.setPC v).halt = s.halt := rfl
@[simp] theorem State.setPC_mem : (s.setPC v).mem = s.mem := rfl
@[simp] theorem State.setPC_port : (s.setPC v).port = s.port := rfl
@[simp] theorem State.setPC_tCycles : (s.setPC v).tCycles = s.tCycles := rfl
@[simp] theorem State.setPC_unimplSeen : (s.setPC v).unimplSeen = s.unimplSeen := rfl
@[simp] theorem State.setPC_diag : (s.setPC v).diag = s.diag := rfl
@[simp] theorem State.setPC_draws : (s.setPC v).draws = s.draws := rfl
end SetPC

section SetI
variable (s : State) (v : Byte)
@[simp] theorem State.setI_regs : (s.setI v).regs = s.regs := rfl
@[simp] theorem State.setI_shadow : (s.setI v).shadow = s.shadow := rfl
@[simp] theorem State.setI_ix : (s.setI v).ix = s.ix := rfl
@[simp] theorem State.setI_iy : (s.setI v).iy = s.iy := rfl
@[simp] theorem State.setI_sp : (s.setI v).sp = s.sp := rfl
@[simp] theorem State.setI_pc : (s.setI v).pc = s.pc := rfl
@[simp] theorem State.setI_i : (s.setI v).i = v := rfl
@[simp] theorem State.setI_r : (s.setI v).r = s.r := rfl
@[simp] theorem State.setI_iff1 : (s.setI v).iff1 = s.iff1 := rfl
@[simp] theorem State.setI_iff2 : (s.setI v).iff2 = s.iff2 := rfl
@[simp] theorem State.setI_im : (s.setI v).im = s.im := rfl
@[simp] theorem State.setI_halt : (s.setI v).halt = s.halt := rfl
@[simp] theorem State.setI_mem : (s.setI v).mem = s.mem := rfl
@[simp] theorem State.setI_port : (s.setI v).port = s.port := rfl
@[simp] theorem State.setI_tCycles : (s.setI v).tCycles = s.tCycles := rfl
@[simp] theorem State.setI_unimplSeen : (s.setI v).unimplSeen = s.unimplSeen := rfl
@[simp] theorem State.setI_diag : (s.setI v).diag = s.diag := rfl
@[simp] theorem State.setI_draws : (s.setI v).draws = s.draws := rfl
end SetI

section SetR
variable (s : State) (v : Byte)
@[simp] theorem State.setR_regs : (s.setR v).regs = s.regs := rfl
@[simp] theorem State.setR_shadow : (s.setR v).shadow = s.shadow := rfl
@[simp] theorem State.setR_ix : (s.setR v).ix = s.ix := rfl
@[simp] theorem State.setR_iy : (s.setR v).iy = s.iy := rfl
@[simp] theorem State.setR_sp : (s.setR v).sp = s.sp := rfl
@[simp] theorem State.setR_pc : (s.setR v).pc = s.pc := rfl
@[simp] theorem State.setR_i : (s.setR v).i = s.i := rfl
@[simp] theorem State.setR_r : (s.setR v).r = v := rfl
@[simp] theorem State.setR_iff1 : (s.setR v).iff1 = s.iff1 := rfl
@[simp] theorem State.setR_iff2 : (s.setR v).iff2 = s.iff2 := rfl
@[simp] theorem State.setR_im : (s.setR v).im = s.im := rfl
@[simp] theorem State.setR_halt : (s.setR v).halt = s.halt := rfl
@[simp] theorem State.setR_mem : (s.setR v).mem = s.mem := rfl
@[simp] theorem State.setR_port : (s.setR v).port = s.port := rfl
@[simp] theorem State.setR_tCycles : (s.setR v).tCycles = s.tCycles := rfl
@[simp] theorem State.setR_unimplSeen : (s.setR v).unimplSeen = s.unimplSeen := rfl
@[simp] theorem State.setR_diag : (s.setR v).diag = s.diag := rfl
@[simp] theorem State.setR_draws : (s.setR v).draws = s.draws := rfl
end SetR

section SetIff
variable (s : State) (x y : Bool)
@[simp] theorem State.setIff_regs : (s.setIff x y).regs = s.regs := rfl
@[simp] theorem State.setIff_shadow : (s.setIff x y).shadow = s.shadow := rfl
@[simp] theorem State.setIff_ix : (s.setIff x y).ix = s.ix := rfl
@[simp] theorem State.setIff_iy : (s.setIff x y).iy = s.iy := rfl
@[simp] theorem State.setIff_sp : (s.setIff x y).sp = s.sp := rfl
@[simp] theorem State.setIff_pc : (s.setIff x y).pc = s.pc := rfl
@[simp] theorem State.setIff_i : (s.setIff x y).i = s.i := rfl
@[simp] theorem State.setIff_r : (s.setIff x y).r = s.r := rfl
@[simp] theorem State.setIff_iff1 : (s.setIff x y).iff1 = x := rfl
@[simp] theorem State.setIff_iff2 : (s.setIff x y).iff2 = y := rfl
@[simp] theorem State.setIff_im : (s.setIff x y).im = s.im := rfl
@[simp] theorem State.setIff_halt : (s.setIff x y).halt = s.halt := rfl
@[simp] theorem State.setIff_mem : (s.setIff x y).mem = s.mem := rfl
@[simp] theorem State.setIff_port : (s.setIff x y).port = s.port := rfl
@[simp] theorem State.setIff_tCycles : (s.setIff x y).tCycles = s.tCycles := rfl
@[simp] theorem State.setIff_unimplSeen : (s.setIff x y).unimplSeen = s.unimplSeen := rfl
@[simp] theorem State.setIff_diag : (s.setIff x y).diag = s.diag := rfl
@[simp] theorem State.setIff_draws : (s.setIff x y).draws = s.draws := rfl
end SetIff

section SetIM
variable (s : State) (m : IntMode)
@[simp] theorem State.setIM_regs : (s.setIM m).regs = s.regs := rfl
@[simp] theorem State.setIM_shadow : (s.setIM m).shadow = s.shadow := rfl
@[simp] theorem State.setIM_ix : (s.setIM m).ix = s.ix := rfl
@[simp] theorem State.setIM_iy : (s.setIM m).iy = s.iy := rfl
@[simp] theorem State.setIM_sp : (s.setIM m).sp = s.sp := rfl
@[simp] theorem State.setIM_pc : (s.setIM m).pc = s.pc := rfl
@[simp] theorem State.setIM_i : (s.setIM m).i = s.i := rfl
@[simp] theorem State.setIM_r : (s.setIM m).r = s.r := rfl
@[simp] theorem State.setIM_iff1 : (s.setIM m).iff1 = s.iff1 := rfl
@[simp] theorem State.setIM_iff2 : (s.setIM m).iff2 = s.iff2 := rfl
@[simp] theorem State.setIM_im : (s.setIM m).im = m := rfl
@[simp] theorem State.setIM_halt : (s.setIM m).halt = s.halt := rfl
@[simp] theorem State.setIM_mem : (s.setIM m).mem = s.mem := rfl
@[simp] theorem State.setIM_port : (s.setIM m).port = s.port := rfl
@[simp] theorem State.setIM_tCycles : (s.setIM m).tCycles = s.tCycles := rfl
@[simp] theorem State.setIM_unimplSeen : (s.setIM m).unimplSeen = s.unimplSeen := rfl
@[simp] theorem State.setIM_diag : (s.setIM m).diag = s.diag := rfl
@[simp] theorem State.setIM_draws : (s.setIM m).draws = s.draws := rfl
end SetIM

section SetHalt
variable (s : State) 
@[simp] theorem State.setHalt_regs : s.setHalt.regs = s.regs := rfl
@[simp] theorem State.setHalt_shadow : s.setHalt.shadow = s.shadow := rfl
@[simp] theorem State.setHalt_ix : s.setHalt.ix = s.ix := rfl
@[simp] theorem State.setHalt_iy : s.setHalt.iy = s.iy := rfl
@[simp] theorem State.setHalt_sp : s.setHalt.sp = s.sp := rfl
@[simp] theorem State.setHalt_pc : s.setHalt.pc = s.pc := rfl
@[simp] theorem State.setHalt_i : s.setHalt.i = s.i := rfl
@[simp] theorem State.setHalt_r : s.setHalt.r = s.r := rfl
@[simp] theorem State.setHalt_iff1 : s.setHalt.iff1 = s.iff1 := rfl
@[simp] theorem State.setHalt_iff2 : s.setHalt.iff2 = s.iff2 := rfl
@[simp] theorem State.setHalt_im : s.setHalt.im = s.im := rfl
@[simp] theorem State.setHalt_halt : s.setHalt.halt = true := rfl
@[simp] theorem State.setHalt_mem : s.setHalt.mem = s.mem := rfl
@[simp] theorem State.setHalt_port : s.setHalt.port = s.port := rfl
@[simp] theorem State.setHalt_tCycles : s.setHalt.tCycles = s.tCycles := rfl
@[simp] theorem State.setHalt_unimplSeen : s.setHalt.unimplSeen = s.unimplSeen := rfl
@[simp] theorem State.setHalt_diag : s.setHalt.diag = s.diag := rfl
@[simp] theorem State.setHalt_draws : s.setHalt.draws = s.draws := rfl
end SetHalt

section WriteMem
variable (s : State) (a : Word) (v : Byte)
@[simp] theorem State.writeMem_regs : (s.writeMem a v).regs = s.regs := rfl
@[simp] theorem State.writeMem_shadow : (s.writeMem a v).shadow = s.shadow := rfl
@[simp] theorem State.writeMem_ix : (s.writeMem a v).ix = s.ix := rfl
@[simp] theorem State.writeMem_iy : (s.writeMem a v).iy = s.iy := rfl
@[simp] theorem State.writeMem_sp : (s.writeMem a v).sp = s.sp := rfl
@[simp] theorem State.writeMem_pc : (s.writeMem a v).pc = s.pc := rfl
@[simp] theorem State.writeMem_i : (s.writeMem a v).i = s.i := rfl
@[simp] theorem State.writeMem_r : (s.writeMem a v).r = s.r := rfl
@[simp] theorem State.writeMem_iff1 : (s.writeMem a v).iff1 = s.iff1 := rfl
@[simp] theorem State.writeMem_iff2 : (s.writeMem a v).iff2 = s.iff2 := rfl
@[simp] theorem State.writeMem_im : (s.writeMem a v).im = s.im := rfl
@[simp] theorem State.writeMem_halt : (s.writeMem a v).halt = s.halt := rfl
@[simp] theorem State.writeMem_mem : (s.writeMem a v).mem = s.mem.write a v := rfl
@[simp] theorem State.writeMem_port : (s.writeMem a v).port = s.port := rfl
@[simp] theorem State.writeMem_tCycles : (s.writeMem a v).tCycles = s.tCycles := rfl
@[simp] theorem State.writeMem_unimplSeen : (s.writeMem a v).unimplSeen = s.unimplSeen := rfl
@[simp] theorem State.writeMem_diag : (s.writeMem a v).diag = s.diag := rfl
@[simp] theorem State.writeMem_draws : (s.writeMem a v).draws = s.draws := rfl
end WriteMem

section WritePort
variable (s : State) (a : Word) (v : Byte)
@[simp] theorem State.writePort_regs : (s.writePort a v).regs = s.regs := rfl
@[simp] theorem State.writePort_shadow : (s.writePort a v).shadow = s.shadow := rfl
@[simp] theorem State.writePort_ix : (s.writePort a v).ix = s.ix := rfl
@[simp] theorem State.writePort_iy : (s.writePort a v).iy = s.iy := rfl
@[simp] theorem State.writePort_sp : (s.writePort a v).sp = s.sp := rfl
@[simp] theorem State.writePort_pc : (s.writePort a v).pc = s.pc := rfl
@[simp] theorem State.writePort_i : (s.writePort a v).i = s.i := rfl
@[simp] theorem State.writePort_r : (s.writePort a v).r = s.r := rfl
@[simp] theorem State.writePort_iff1 : (s.writePort a v).iff1 = s.iff1 := rfl
@[simp] theorem State.writePort_iff2 : (s.writePort a v).iff2 = s.iff2 := rfl
@[simp] theorem State.writePort_im : (s.writePort a v).im = s.im := rfl
@[simp] theorem State.writePort_halt : (s.writePort a v).halt = s.halt := rfl
@[simp] theorem State.writePort_mem : (s.writePort a v).mem = s.mem := rfl
@[simp] theorem State.writePort_port : (s.writePort a v).port = s.port.write a v := rfl
@[simp] theorem State.writePort_tCycles : (s.writePort a v).tCycles = s.tCycles := rfl
@[simp] theorem State.writePort_unimplSeen : (s.writePort a v).unimplSeen = s.unimplSeen := rfl
@[simp] theorem State.writePort_diag : (s.writePort a v).diag = s.diag := rfl
@[simp] theorem State.writePort_draws : (s.writePort a v).draws = s.draws := rfl
end WritePort

section Tick
variable (s : State) (n : Nat)
@[simp] theorem State.tick_regs : (s.tick n).regs = s.regs := rfl
@[simp] theorem State.tick_shadow : (s.tick n).shadow = s.shadow := rfl
@[simp] theorem State.tick_ix : (s.tick n).ix = s.ix := rfl
@[simp] theorem State.tick_iy : (s.tick n).iy = s.iy := rfl
@[simp] theorem State.tick_sp : (s.tick n).sp = s.sp := rfl
@[simp] theorem State.tick_pc : (s.tick n).pc = s.pc := rfl
@[simp] theorem State.tick_i : (s.tick n).i = s.i := rfl
@[simp] theorem State.tick_r : (s.tick n).r = s.r := rfl
@[simp] theorem State.tick_iff1 : (s.tick n).iff1 = s.iff1 := rfl
@[simp] theorem State.tick_iff2 : (s.tick n).iff2 = s.iff2 := rfl
@[simp] theorem State.tick_im : (s.tick n).im = s.im := rfl
@[simp] theorem State.tick_halt : (s.tick n).halt = s.halt := rfl
@[simp] theorem State.tick_mem : (s.tick n).mem = s.mem := rfl
@[simp] theorem State.tick_port : (s.tick n).port = s.port := rfl
@[simp] theorem State.tick_tCycles : (s.tick n).tCycles = s.tCycles + n := rfl
@[simp] theorem State.tick_unimplSeen : (s.tick n).unimplSeen = s.unimplSeen := rfl
@[simp] theorem State.tick_diag : (s.tick n).diag = s.diag := rfl
@[simp] theorem State.tick_draws : (s.tick n).draws = s.draws := rfl
end Tick

section UseDraws
variable (s : State) (n : Nat)
@[simp] theorem State.useDraws_regs : (s.useDraws n).regs = s.regs := rfl
@[simp] theorem State.useDraws_shadow : (s.useDraws n).shadow = s.shadow := rfl
@[simp] theorem State.useDraws_ix : (s.useDraws n).ix = s.ix := rfl
@[simp] theorem State.useDraws_iy : (s.useDraws n).iy = s.iy := rfl
@[simp] theorem State.useDraws_sp : (s.useDraws n).sp = s.sp := rfl
@[simp] theorem State.useDraws_pc : (s.useDraws n).pc = s.pc := rfl
@[simp] theorem State.useDraws_i : (s.useDraws n).i = s.i := rfl
@[simp] theorem State.useDraws_r : (s.useDraws n).r = s.r := rfl
@[simp] theorem State.useDraws_iff1 : (s.useDraws n).iff1 = s.iff1 := rfl
@[simp] theorem State.useDraws_iff2 : (s.useDraws n).iff2 = s.iff2 := rfl
@[simp] theorem State.useDraws_im : (s.useDraws n).im = s.im := rfl
@[simp] theorem State.useDraws_halt : (s.useDraws n).halt = s.halt := rfl
@[simp] theorem State.useDraws_mem : (s.useDraws n).mem = s.mem := rfl
@[simp] theorem State.useDraws_port : (s.useDraws n).port = s.port := rfl
@[simp] theorem State.useDraws_tCycles : (s.useDraws n).tCycles = s.tCycles := rfl
@[simp] theorem State.useDraws_unimplSeen : (s.useDraws n).unimplSeen = s.unimplSeen := rfl
@[simp] theorem State.useDraws_diag : (s.useDraws n).diag = s.diag := rfl
@[simp] theorem State.useDraws_draws : (s.useDraws n).draws = s.draws + n := rfl
end UseDraws

section BeginInstr
variable (s : State) (n : Nat)
@[simp] theorem State.beginInstr_regs : (s.beginInstr n).regs = s.regs := rfl
@[simp] theorem State.beginInstr_shadow : (s.beginInstr n).shadow = s.shadow := rfl
@[simp] theorem State.beginInstr_ix : (s.beginInstr n).ix = s.ix := rfl
@[simp] theorem State.beginInstr_iy : (s.beginInstr n).iy = s.iy := rfl
@[simp] theorem State.beginInstr_sp : (s.beginInstr n).sp = s.sp := rfl
@[simp] theorem State.beginInstr_pc : (s.beginInstr n).pc = s.pc + BitVec.ofNat 16 n := rfl
@[simp] theorem State.beginInstr_i : (s.beginInstr n).i = s.i := rfl
@[simp] theorem State.beginInstr_r : (s.beginInstr n).r = s.r := rfl
@[simp] theorem State.beginInstr_iff1 : (s.beginInstr n).iff1 = s.iff1 := rfl
@[simp] theorem State.beginInstr_iff2 : (s.beginInstr n).iff2 = s.iff2 := rfl
@[simp] theorem State.beginInstr_im : (s.beginInstr n).im = s.im := rfl
@[simp] theorem State.beginInstr_halt : (s.beginInstr n).halt = s.halt := rfl
@[simp] theorem State.beginInstr_mem : (s.beginInstr n).mem = s.mem := rfl
@[simp] theorem State.beginInstr_port : (s.beginInstr n).port = s.port := rfl
@[simp] theorem State.beginInstr_tCycles : (s.beginInstr n).tCycles = 0 := rfl
@[simp] theorem State.beginInstr_unimplSeen : (s.beginInstr n).unimplSeen = s.unimplSeen := rfl
@[simp] theorem State.beginInstr_diag : (s.beginInstr n).diag = none := rfl
@[simp] theorem State.beginInstr_draws : (s.beginInstr n).draws = s.draws := rfl
end BeginInstr

section Idle
variable (s : State) 
@[simp] theorem State.idle_regs : s.idle.regs = s.regs := rfl
@[simp] theorem State.idle_shadow : s.idle.shadow = s.shadow := rfl
@[simp] theorem State.idle_ix : s.idle.ix = s.ix := rfl
@[simp] theorem State.idle_iy : s.idle.iy = s.iy := rfl
@[simp] theorem State.idle_sp : s.idle.sp = s.sp := rfl
@[simp] theorem State.idle_pc : s.idle.pc = s.pc := rfl
@[simp] theorem State.idle_i : s.idle.i = s.i := rfl
@[simp] theorem State.idle_r : s.idle.r = s.r := rfl
@[simp] theorem State.idle_iff1 : s.idle.iff1 = s.iff1 := rfl
@[simp] theorem State.idle_iff2 : s.idle.iff2 = s.iff2 := rfl
@[simp] theorem State.idle_im : s.idle.im = s.im := rfl
@[simp] theorem State.idle_halt : s.idle.halt = s.halt := rfl
@[simp] theorem State.idle_mem : s.idle.mem = s.mem := rfl
@[simp] theorem State.idle_port : s.idle.port = s.port := rfl
@[simp] theorem State.idle_tCycles : s.idle.tCycles = 0 := rfl
@[simp] theorem State.idle_unimplSeen : s.idle.unimplSeen = s.unimplSeen := rfl
@[simp] theorem State.idle_diag : s.idle.diag = none := rfl
@[simp] theorem State.idle_draws : s.idle.draws = s.draws := rfl
end Idle

section RaiseUnimplemented
variable (s : State) (bs : List Byte)
@[simp] theorem State.raiseUnimplemented_regs : (s.raiseUnimplemented bs).regs = s.regs := rfl
@[simp] theorem State.raiseUnimplemented_shadow : (s.raiseUnimplemented bs).shadow = s.shadow := rfl
@[simp] theorem State.raiseUnimplemented_ix : (s.raiseUnimplemented bs).ix = s.ix := rfl
@[simp] theorem State.raiseUnimplemented_iy : (s.raiseUnimplemented bs).iy = s.iy := rfl
@[simp] theorem State.raiseUnimplemented_sp : (s.raiseUnimplemented bs).sp = s.sp := rfl
@[simp] theorem State.raiseUnimplemented_pc : (s.raiseUnimplemented bs).pc = s.pc := rfl
@[simp] theorem State.raiseUnimplemented_i : (s.raiseUnimplemented bs).i = s.i := rfl
@[simp] theorem State.raiseUnimplemented_r : (s.raiseUnimplemented bs).r = s.r := rfl
@[simp] theorem State.raiseUnimplemented_iff1 : (s.raiseUnimplemented bs).iff1 = s.iff1 := rfl
@[simp] theorem State.raiseUnimplemented_iff2 : (s.raiseUnimplemented bs).iff2 = s.iff2 := rfl
@[simp] theorem State.raiseUnimplemented_im : (s.raiseUnimplemented bs).im = s.im := rfl
@[simp] theorem State.raiseUnimplemented_halt : (s.raiseUnimplemented bs).halt = s.halt := rfl
@[simp] theorem State.raiseUnimplemented_mem : (s.raiseUnimplemented bs).mem = s.mem := rfl
@[simp] theorem State.raiseUnimplemented_port : (s.raiseUnimplemented bs).port = s.port := rfl
@[simp] theorem State.raiseUnimplemented_tCycles : (s.raiseUnimplemented bs).tCycles = s.tCycles := rfl
@[simp] theorem State.raiseUnimplemented_unimplSeen : (s.raiseUnimplemented bs).unimplSeen = true := rfl
@[simp] theorem State.raiseUnimplemented_diag : (s.raiseUnimplemented bs).diag = some ⟨s.pc - BitVec.ofNat 16 bs.length, bs⟩ := rfl
@[simp] theorem State.raiseUnimplemented_draws : (s.raiseUnimplemented bs).draws = s.draws := rfl
end RaiseUnimplemented

end Sys2Proof.Machine
end

