-- ==== Sys2Proof/Laws/Flags.lean ====
section
/-! SUPPORT. The flag byte and its eight bits are the same data; carries and overflows of the ALU
functions, said about the integers. -/

namespace Sys2Proof.Machine

/-! ### F and its bits (R210, R211) -/

@[simp] theorem Flags.ofByte_toByte (fl : Flags) : Flags.ofByte fl.toByte = fl := by
  obtain ⟨s, z, f5, h, f3, pv, n, c⟩ := fl
  revert s z f5 h f3 pv n c
  decide

@[simp] theorem Flags.toByte_ofByte (v : Byte) : (Flags.ofByte v).toByte = v := by
  revert v
  decide

@[simp] theorem State.flags_setFlags (s : State) (fl : Flags) : (s.setFlags fl).flags = fl :=
  Flags.ofByte_toByte fl

/-! ### Carry out of a bit, by exclusive or (R510, R511, R560) -/

/-- Bit `k` of `a ^ b ^ (a + b + cin)` is the carry into bit `k`. -/
theorem getLsbD_xor_add {w : Nat} (a b : BitVec w) (cin : Bool) (k : Nat) (hk : k < w) :
    (a ^^^ b ^^^ BitVec.ofNat w (a.toNat + b.toNat + cin.toNat)).getLsbD k =
      decide (2 ^ k ≤ a.toNat % 2 ^ k + b.toNat % 2 ^ k + cin.toNat) := by
  have h : BitVec.ofNat w (a.toNat + b.toNat + cin.toNat) =
      a + b + BitVec.setWidth w (BitVec.ofBool cin) := by
    apply BitVec.eq_of_toNat_eq
    cases cin <;> simp [BitVec.toNat_add]
  rw [h, BitVec.getLsbD_xor, BitVec.getLsbD_xor, BitVec.getLsbD_add_add_bool hk, BitVec.carry]
  cases a.getLsbD k <;> cases b.getLsbD k <;> simp

/-- Bit `k` of `a ^ b ^ (a - b - cin)` is the borrow from bit `k`. -/
theorem getLsbD_xor_sub {w : Nat} (a b : BitVec w) (cin : Bool) (k : Nat) (hk : k < w) :
    (a ^^^ b ^^^ BitVec.ofInt w ((a.toNat : Int) - b.toNat - cin.toNat)).getLsbD k =
      decide (a.toNat % 2 ^ k < b.toNat % 2 ^ k + cin.toNat) := by
  generalize hr : BitVec.ofInt w ((a.toNat : Int) - b.toNat - cin.toNat) = r
  have ha : a = BitVec.ofNat w (r.toNat + b.toNat + cin.toNat) := by
    have : a = r + b + BitVec.ofNat w cin.toNat := by
      have hb : BitVec.ofInt w (b.toNat : Int) = b := by simp
      have hc : BitVec.ofInt w (cin.toNat : Int) = BitVec.ofNat w cin.toNat := by simp
      rw [← hr, ← hc]
      nth_rewrite 2 [← hb]
      rw [← BitVec.ofInt_add, ← BitVec.ofInt_add,
        show ((a.toNat : Int) - b.toNat - cin.toNat + b.toNat + cin.toNat) = a.toNat by ring]
      simp
    rw [this]
    apply BitVec.eq_of_toNat_eq
    simp [BitVec.toNat_add]
  have hx := getLsbD_xor_add r b cin k hk
  rw [← ha] at hx
  have hsym : a ^^^ b ^^^ r = r ^^^ b ^^^ a := by
    rw [BitVec.xor_assoc, BitVec.xor_comm a, BitVec.xor_comm b]
  rw [hsym, hx]
  have hm : a.toNat % 2 ^ k = (r.toNat % 2 ^ k + b.toNat % 2 ^ k + cin.toNat) % 2 ^ k := by
    have hd : 2 ^ k ∣ 2 ^ w := Nat.pow_dvd_pow 2 hk.le
    conv_lhs => rw [ha, BitVec.toNat_ofNat, Nat.mod_mod_of_dvd _ hd]
    simp [Nat.add_mod]
  have hp : 0 < 2 ^ k := Nat.two_pow_pos k
  have h1 := Nat.mod_lt r.toNat hp
  have h2 := Nat.mod_lt b.toNat hp
  generalize r.toNat % 2 ^ k = x at *
  generalize b.toNat % 2 ^ k = y at *
  have hc : cin.toNat ≤ 1 := Bool.toNat_le cin
  rw [hm]
  congr 1
  apply propext
  constructor
  · intro hle
    have : (x + y + cin.toNat) % 2 ^ k = x + y + cin.toNat - 2 ^ k := by
      rw [Nat.mod_eq_sub_mod hle, Nat.mod_eq_of_lt (by omega)]
    omega
  · intro hlt
    by_contra hn
    rw [Nat.mod_eq_of_lt (by omega)] at hlt
    omega

/-! ### Signed overflow, by the signs (R510, R511, R541, R542) -/

theorem Byte.sign (v : Byte) : v.getLsbD 7 = decide (128 ≤ v.toNat) :=
  BitVec.msb_eq_decide v ▸ (BitVec.msb_eq_getLsbD_last v).symm

theorem Word.sign (v : Word) : v.getLsbD 15 = decide (32768 ≤ v.toNat) :=
  BitVec.msb_eq_decide v ▸ (BitVec.msb_eq_getLsbD_last v).symm

theorem Byte.toInt_eq (v : Byte) : v.toInt = if v.toNat < 128 then (v.toNat : Int) else v.toNat - 256 := by
  rw [BitVec.toInt_eq_toNat_cond]; split <;> split <;> omega

theorem Word.toInt_eq (v : Word) :
    v.toInt = if v.toNat < 32768 then (v.toNat : Int) else v.toNat - 65536 := by
  rw [BitVec.toInt_eq_toNat_cond]; split <;> split <;> omega

theorem add8_res (a b : Byte) (cin : Bool) :
    (add8 a b cin).res.toNat = (a.toNat + b.toNat + cin.toNat) % 256 := by
  simp [add8]

theorem sub8_res (a b : Byte) (cin : Bool) :
    ((sub8 a b cin).res.toNat : Int) = ((a.toNat : Int) - b.toNat - cin.toNat) % 256 := by
  simp only [sub8, BitVec.toNat_ofInt]
  omega

theorem adc16_res (a b : Word) (old : Flags) :
    (adc16 a b old).res.toNat = (a.toNat + b.toNat + old.c.toNat) % 65536 := by
  simp [adc16]

theorem sbc16_res (a b : Word) (old : Flags) :
    ((sbc16 a b old).res.toNat : Int) = ((a.toNat : Int) - b.toNat - old.c.toNat) % 65536 := by
  simp only [sbc16, BitVec.toNat_ofInt]
  omega

theorem add8_h (a b : Byte) (cin : Bool) :
    (add8 a b cin).flags.h = decide (16 ≤ a.toNat % 16 + b.toNat % 16 + cin.toNat) :=
  getLsbD_xor_add a b cin 4 (by decide)

theorem sub8_h (a b : Byte) (cin : Bool) :
    (sub8 a b cin).flags.h = decide (a.toNat % 16 < b.toNat % 16 + cin.toNat) :=
  getLsbD_xor_sub a b cin 4 (by decide)

theorem add16_h (a b : Word) (old : Flags) :
    (add16 a b old).flags.h = decide (4096 ≤ a.toNat % 4096 + b.toNat % 4096) :=
  getLsbD_xor_add a b false 12 (by decide)

theorem adc16_h (a b : Word) (old : Flags) :
    (adc16 a b old).flags.h = decide (4096 ≤ a.toNat % 4096 + b.toNat % 4096 + old.c.toNat) :=
  getLsbD_xor_add a b old.c 12 (by decide)

theorem sbc16_h (a b : Word) (old : Flags) :
    (sbc16 a b old).flags.h = decide (a.toNat % 4096 < b.toNat % 4096 + old.c.toNat) :=
  getLsbD_xor_sub a b old.c 12 (by decide)

theorem add8_pv (a b : Byte) (cin : Bool) :
    (add8 a b cin).flags.pv =
      decide (a.toInt + b.toInt + cin.toNat < -128 ∨ 127 < a.toInt + b.toInt + cin.toNat) := by
  have hr := add8_res a b cin
  have hpv : (add8 a b cin).flags.pv =
    (a.getLsbD 7 == b.getLsbD 7 && (add8 a b cin).res.getLsbD 7 != a.getLsbD 7) := rfl
  rw [hpv, Byte.sign, Byte.sign, Byte.sign, hr, Byte.toInt_eq, Byte.toInt_eq]
  have h1 := a.isLt
  have h2 := b.isLt
  have hc : cin.toNat ≤ 1 := Bool.toNat_le cin
  rw [Bool.eq_iff_iff]
  simp only [Bool.and_eq_true, beq_iff_eq, bne_iff_ne, ne_eq, decide_eq_true_eq, decide_eq_decide]
  split <;> split <;> omega

theorem sub8_pv (a b : Byte) (cin : Bool) :
    (sub8 a b cin).flags.pv =
      decide (a.toInt - b.toInt - cin.toNat < -128 ∨ 127 < a.toInt - b.toInt - cin.toNat) := by
  have hr := sub8_res a b cin
  have hpv : (sub8 a b cin).flags.pv =
    (a.getLsbD 7 != b.getLsbD 7 && (sub8 a b cin).res.getLsbD 7 != a.getLsbD 7) := rfl
  rw [hpv, Byte.sign, Byte.sign, Byte.sign, Byte.toInt_eq, Byte.toInt_eq]
  have h1 := a.isLt
  have h2 := b.isLt
  have hc : cin.toNat ≤ 1 := Bool.toNat_le cin
  rw [Bool.eq_iff_iff]
  simp only [Bool.and_eq_true, bne_iff_ne, ne_eq, decide_eq_true_eq, decide_eq_decide]
  split <;> split <;> omega

theorem adc16_pv (a b : Word) (old : Flags) :
    (adc16 a b old).flags.pv =
      decide (a.toInt + b.toInt + old.c.toNat < -32768 ∨ 32767 < a.toInt + b.toInt + old.c.toNat) := by
  have hr := adc16_res a b old
  have hpv : (adc16 a b old).flags.pv =
    (a.getLsbD 15 == b.getLsbD 15 && (adc16 a b old).res.getLsbD 15 != a.getLsbD 15) := rfl
  rw [hpv, Word.sign, Word.sign, Word.sign, hr, Word.toInt_eq, Word.toInt_eq]
  have h1 := a.isLt
  have h2 := b.isLt
  have hc : old.c.toNat ≤ 1 := Bool.toNat_le old.c
  rw [Bool.eq_iff_iff]
  simp only [Bool.and_eq_true, beq_iff_eq, bne_iff_ne, ne_eq, decide_eq_true_eq, decide_eq_decide]
  split <;> split <;> omega

theorem sbc16_pv (a b : Word) (old : Flags) :
    (sbc16 a b old).flags.pv =
      decide (a.toInt - b.toInt - old.c.toNat < -32768 ∨ 32767 < a.toInt - b.toInt - old.c.toNat) := by
  have hr := sbc16_res a b old
  have hpv : (sbc16 a b old).flags.pv =
    (a.getLsbD 15 != b.getLsbD 15 && (sbc16 a b old).res.getLsbD 15 != a.getLsbD 15) := rfl
  rw [hpv, Word.sign, Word.sign, Word.sign, Word.toInt_eq, Word.toInt_eq]
  have h1 := a.isLt
  have h2 := b.isLt
  have hc : old.c.toNat ≤ 1 := Bool.toNat_le old.c
  rw [Bool.eq_iff_iff]
  simp only [Bool.and_eq_true, bne_iff_ne, ne_eq, decide_eq_true_eq, decide_eq_decide]
  split <;> split <;> omega

end Sys2Proof.Machine
end

