-- ==== Sys2Proof/Laws/Memory.lean ====
section
/-! SUPPORT. The laws of one sparse space of cells: a read after a write gives the value written, a write
leaves every other cell alone, and every write keeps the canonical form. The first two hold of every list,
canonical or not. -/

namespace Sys2Proof.Machine

/-! ### Cells by key -/

theorem Memory.cell_putCell (m : Memory) (k j : Nat) (v : Byte) :
    Memory.cell (Memory.putCell m k v) j = if k = j then v else Memory.cell m j := by
  induction m with
  | nil => rfl
  | cons c m ih =>
    simp only [Memory.putCell]
    split
    · rfl
    · split
      · next hk => subst hk; simp only [Memory.cell]; split <;> rfl
      · next hk =>
        simp only [Memory.cell, ih]
        by_cases h : c.1 = j
        · subst h; simp [Ne.symm hk]
        · simp [h]

theorem Memory.cell_unlist (m : Memory) (k j : Nat) :
    Memory.cell (Memory.unlist m k) j = if k = j then Memory.unlisted else Memory.cell m j := by
  induction m with
  | nil => simp [Memory.unlist, Memory.cell]
  | cons c m ih =>
    simp only [Memory.unlist] at ih
    by_cases hk : c.1 = k
    · subst hk; by_cases h : c.1 = j <;> simp_all [Memory.unlist, Memory.cell]
    · by_cases h : c.1 = j
      · subst h; simp [Memory.unlist, Memory.cell, hk, Ne.symm hk]
      · simp [Memory.unlist, Memory.cell, hk, h, ih]

/-! ### Reads and writes at an address -/

theorem Memory.read_write (m : Memory) (a x : Word) (v : Byte) :
    (m.write a v).read x = if x = a then v else m.read x := by
  have h : a.toNat = x.toNat ↔ x = a := BitVec.toNat_inj.trans eq_comm
  unfold Memory.write Memory.read
  split
  · next hv => simp [Memory.cell_unlist, h, hv]
  · simp [Memory.cell_putCell, h]

@[simp] theorem Memory.read_write_same (m : Memory) (a : Word) (v : Byte) : (m.write a v).read a = v := by
  simp [Memory.read_write]

theorem Memory.read_write_of_ne (m : Memory) {a x : Word} (v : Byte) (h : x ≠ a) :
    (m.write a v).read x = m.read x := by
  simp [Memory.read_write, h]

/-! ### The canonical form -/

theorem Memory.mem_putCell {m : Memory} {k : Nat} {v : Byte} {c : Host.Cell}
    (h : c ∈ Memory.putCell m k v) : c = (k, v) ∨ c ∈ m := by
  induction m with
  | nil => simpa [Memory.putCell] using h
  | cons d m ih =>
    simp only [Memory.putCell] at h
    split at h
    · simpa using h
    · split at h
      · rcases List.mem_cons.mp h with h | h
        · exact .inl h
        · exact .inr (List.mem_cons_of_mem _ h)
      · rcases List.mem_cons.mp h with h | h
        · exact .inr (h ▸ List.mem_cons_self)
        · exact (ih h).imp_right (List.mem_cons_of_mem _)

theorem Memory.putCell_pairwise {m : Memory} (k : Nat) (v : Byte)
    (h : m.Pairwise fun c c' => c.1 < c'.1) :
    (Memory.putCell m k v).Pairwise fun c c' => c.1 < c'.1 := by
  induction m with
  | nil => simp [Memory.putCell]
  | cons d m ih =>
    obtain ⟨hd, hm⟩ := List.pairwise_cons.mp h
    simp only [Memory.putCell]
    split
    · next hk =>
      refine List.pairwise_cons.mpr ⟨fun c hc => ?_, h⟩
      rcases List.mem_cons.mp hc with rfl | hc
      · exact hk
      · exact hk.trans (hd c hc)
    · split
      · next hk => exact List.pairwise_cons.mpr ⟨fun c hc => hk ▸ hd c hc, hm⟩
      · next hlt hne =>
        refine List.pairwise_cons.mpr ⟨fun c hc => ?_, ih hm⟩
        rcases Memory.mem_putCell hc with rfl | hc
        · exact lt_of_le_of_ne (not_lt.mp hlt) hne
        · exact hd c hc

theorem Memory.wf_nil : Memory.wf [] := by simp [Memory.wf]

theorem Memory.wf_write {m : Memory} (a : Word) (v : Byte) (h : Memory.wf m) : Memory.wf (m.write a v) := by
  obtain ⟨hp, hc⟩ := h
  unfold Memory.write
  split
  · exact ⟨hp.filter _, fun c hmem => hc c (List.mem_of_mem_filter hmem)⟩
  · next hv =>
    refine ⟨Memory.putCell_pairwise _ _ hp, fun c hmem => ?_⟩
    rcases Memory.mem_putCell hmem with rfl | hmem
    · exact ⟨a.isLt, hv⟩
    · exact hc c hmem

/-! ### The machine's memory and ports -/

theorem State.readMem_writeMem (s : State) (a x : Word) (v : Byte) :
    (s.writeMem a v).readMem x = if x = a then v else s.readMem x := Memory.read_write ..

theorem State.readPort_writePort (s : State) (a x : Word) (v : Byte) :
    (s.writePort a v).readPort x = if x = a then v else s.readPort x := Memory.read_write ..

/-- Two adjacent addresses differ, also across the wrap. -/
theorem Word.add_one_ne (a : Word) : a + 1 ≠ a := by bv_omega

theorem State.readMem_writeMem16 (s : State) (a x v : Word) :
    (s.writeMem16 a v).readMem x =
      if x = a + 1 then hiByte v else if x = a then loByte v else s.readMem x := by
  simp [State.writeMem16, State.readMem_writeMem]

theorem State.wf_writeMem {s : State} (a : Word) (v : Byte) (h : Memory.wf s.mem) :
    Memory.wf (s.writeMem a v).mem := Memory.wf_write a v h

theorem State.wf_writePort {s : State} (a : Word) (v : Byte) (h : Memory.wf s.port) :
    Memory.wf (s.writePort a v).port := Memory.wf_write a v h

end Sys2Proof.Machine
end

