-- ==== Sys2Proof/Laws/Operands.lean ====
section
/-! SUPPORT. What each shared operation does and what it leaves alone, said once: provers cite these and
compose frames, and need not unfold the operations. -/

namespace Sys2Proof.Machine

/-! ### Words and their bytes (R108, R300) -/

/-- `{hi, lo} = hi * 256 + lo` (R108). -/
theorem joinBytes_toNat (hi lo : Byte) : (joinBytes hi lo).toNat = hi.toNat * 256 + lo.toNat := by
  unfold joinBytes
  rw [BitVec.toNat_append, ← Nat.shiftLeft_add_eq_or_of_lt lo.isLt, Nat.shiftLeft_eq]

theorem hiByte_toNat (v : Word) : (hiByte v).toNat = v.toNat / 256 := by
  have h := v.isLt
  simp only [hiByte, BitVec.extractLsb'_toNat, Nat.shiftRight_eq_div_pow]
  omega

theorem loByte_toNat (v : Word) : (loByte v).toNat = v.toNat % 256 := by
  simp only [loByte, BitVec.extractLsb'_toNat, Nat.shiftRight_eq_div_pow]
  omega

@[simp] theorem hiByte_joinBytes (hi lo : Byte) : hiByte (joinBytes hi lo) = hi := by
  apply BitVec.eq_of_toNat_eq
  have h := lo.isLt
  rw [hiByte_toNat, joinBytes_toNat]
  omega

@[simp] theorem loByte_joinBytes (hi lo : Byte) : loByte (joinBytes hi lo) = lo := by
  apply BitVec.eq_of_toNat_eq
  have h := lo.isLt
  rw [loByte_toNat, joinBytes_toNat]
  omega

@[simp] theorem joinBytes_hi_lo (v : Word) : joinBytes (hiByte v) (loByte v) = v := by
  apply BitVec.eq_of_toNat_eq
  rw [joinBytes_toNat, hiByte_toNat, loByte_toNat]
  omega

/-- The indexed address is the sum of the base and the signed displacement, modulo 65536 (R421). -/
theorem indexed_toNat (base : Word) (d : Byte) :
    ((indexed base d).toNat : Int) = ((base.toNat : Int) + d.toInt) % 65536 := by
  have hs : (sext d).toInt = d.toInt := BitVec.toInt_signExtend_of_le (by decide)
  have h1 := base.isLt
  have h2 := (sext d).isLt
  rw [indexed, BitVec.toNat_add]
  rw [Word.toInt_eq] at hs
  split at hs <;> omega

/-! ### Registers and flags read after a write -/

theorem State.reg_setReg (s : State) (x y : Reg8) (v : Byte) :
    (s.setReg x v).reg y = if y = x then v else s.reg y := RegSet.get_set ..

@[simp] theorem State.reg_setReg_same (s : State) (x : Reg8) (v : Byte) : (s.setReg x v).reg x = v := by
  simp [State.reg_setReg]

@[simp] theorem State.reg_a (s : State) : s.reg .a = s.regs.a := rfl

@[simp] theorem State.flags_setReg (s : State) (x : Reg8) (v : Byte) :
    (s.setReg x v).flags = s.flags := by
  simp [State.flags]

@[simp] theorem State.bc_setBC (s : State) (v : Word) : (s.setBC v).bc = v := joinBytes_hi_lo v

@[simp] theorem State.de_setDE (s : State) (v : Word) : (s.setDE v).de = v := joinBytes_hi_lo v

@[simp] theorem State.hl_setHL (s : State) (v : Word) : (s.setHL v).hl = v := joinBytes_hi_lo v

@[simp] theorem State.af_setAF (s : State) (v : Word) : (s.setAF v).af = v := joinBytes_hi_lo v

@[simp] theorem State.pairDD_setPairDD (s : State) (p : PairDD) (v : Word) :
    (s.setPairDD p v).pairDD p = v := by
  cases p
  · exact joinBytes_hi_lo v
  · exact joinBytes_hi_lo v
  · exact joinBytes_hi_lo v
  · rfl

@[simp] theorem State.pairQQ_setPairQQ (s : State) (p : PairQQ) (v : Word) :
    (s.setPairQQ p v).pairQQ p = v := by
  cases p <;> exact joinBytes_hi_lo v

/-! ### Frames compose -/

theorem KeepsAllBut.refl (s : State) : KeepsAllBut [] s s := by
  intro p _
  cases p <;> simp [Part.same]

theorem KeepsAllBut.trans {xs ys : List Part} {s t u : State}
    (h : KeepsAllBut xs s t) (h' : KeepsAllBut ys t u) : KeepsAllBut (xs ++ ys) s u := by
  intro p hp
  simp only [List.mem_append, not_or] at hp
  have h1 := h p hp.1
  have h2 := h' p hp.2
  cases p <;> simp_all [Part.same]

theorem KeepsAllBut.mono {xs ys : List Part} {s t : State} (h : KeepsAllBut xs s t)
    (hsub : ∀ p ∈ xs, p ∈ ys) : KeepsAllBut ys s t := fun p hp => h p fun hx => hp (hsub p hx)

/-! ### The frame of each update -/

theorem keeps_setReg (s : State) (x : Reg8) (v : Byte) : KeepsAllBut [.reg x] s (s.setReg x v) := by
  intro p hp
  cases p with
  | reg y => simp_all [Part.same, State.reg_setReg]
  | mem => exact fun _ => rfl
  | port => exact fun _ => rfl
  | _ => simp [Part.same]

theorem keeps_setA (s : State) (v : Byte) : KeepsAllBut [.reg .a] s (s.setA v) := keeps_setReg s .a v

theorem keeps_setB (s : State) (v : Byte) : KeepsAllBut [.reg .b] s (s.setB v) := keeps_setReg s .b v

theorem keeps_setBC (s : State) (v : Word) : KeepsAllBut [.reg .b, .reg .c] s (s.setBC v) :=
  (keeps_setReg s .b (hiByte v)).trans (keeps_setReg _ .c (loByte v))

theorem keeps_setDE (s : State) (v : Word) : KeepsAllBut [.reg .d, .reg .e] s (s.setDE v) :=
  (keeps_setReg s .d (hiByte v)).trans (keeps_setReg _ .e (loByte v))

theorem keeps_setHL (s : State) (v : Word) : KeepsAllBut [.reg .h, .reg .l] s (s.setHL v) :=
  (keeps_setReg s .h (hiByte v)).trans (keeps_setReg _ .l (loByte v))

theorem keeps_setFlags (s : State) (fl : Flags) : KeepsAllBut allFlags s (s.setFlags fl) := by
  intro p hp
  cases p with
  | reg y => cases y <;> rfl
  | mem => exact fun _ => rfl
  | port => exact fun _ => rfl
  | _ => simp_all [Part.same, allFlags]

theorem keeps_setSP (s : State) (v : Word) : KeepsAllBut [.sp] s (s.setSP v) := by
  intro p hp
  cases p <;> first | rfl | exact fun _ => rfl | simp_all

theorem keeps_setPC (s : State) (v : Word) : KeepsAllBut [.pc] s (s.setPC v) := by
  intro p hp
  cases p <;> first | rfl | exact fun _ => rfl | simp_all

theorem keeps_setIX (s : State) (v : Word) : KeepsAllBut [.ix] s (s.setIX v) := by
  intro p hp
  cases p <;> first | rfl | exact fun _ => rfl | simp_all

theorem keeps_setIY (s : State) (v : Word) : KeepsAllBut [.iy] s (s.setIY v) := by
  intro p hp
  cases p <;> first | rfl | exact fun _ => rfl | simp_all

theorem keeps_writeMem (s : State) (a : Word) (v : Byte) : KeepsAllBut [.mem] s (s.writeMem a v) := by
  intro p hp
  cases p <;> first | rfl | exact fun _ => rfl | simp_all

theorem keeps_writePort (s : State) (a : Word) (v : Byte) : KeepsAllBut [.port] s (s.writePort a v) := by
  intro p hp
  cases p <;> first | rfl | exact fun _ => rfl | simp_all

theorem keeps_tick (s : State) (n : Nat) : KeepsAllBut [] s (s.tick n) := by
  intro p _
  cases p <;> first | rfl | exact fun _ => rfl

theorem keeps_useDraws (s : State) (n : Nat) : KeepsAllBut [.draws] s (s.useDraws n) := by
  intro p hp
  cases p <;> first | rfl | exact fun _ => rfl | simp_all

/-! ### Stores -/

theorem stores_writeMem (s : State) (a : Word) (v : Byte) : StoresByte a v s (s.writeMem a v) :=
  ⟨by simp [State.readMem_writeMem], fun x hx => by simp [State.readMem_writeMem, hx]⟩

theorem stores_writeMem16 (s : State) (a v : Word) : StoresWord a v s (s.writeMem16 a v) := by
  refine ⟨?_, ?_, fun x h1 h2 => ?_⟩
  · rw [State.readMem_writeMem16, if_neg (Word.add_one_ne a).symm, if_pos rfl]
  · simp [State.readMem_writeMem16]
  · rw [State.readMem_writeMem16, if_neg h2, if_neg h1]

theorem keeps_writeMem16 (s : State) (a v : Word) : KeepsAllBut [.mem] s (s.writeMem16 a v) :=
  ((keeps_writeMem s a _).trans (keeps_writeMem _ (a + 1) _)).mono (by simp)

theorem writes_writePort (s : State) (a : Word) (v : Byte) : WritesPort a v s (s.writePort a v) :=
  ⟨by simp [State.readPort_writePort], fun x hx => by simp [State.readPort_writePort, hx]⟩

/-- What writing an operand does, and its frame. -/
theorem Loc8.write_spec (l : Loc8) (v : Byte) (s : State) :
    WritesLoc l v s (l.write v s) ∧ KeepsAllBut [l.part] s (l.write v s) := by
  cases l with
  | reg r => exact ⟨⟨State.reg_setReg_same s r v, fun _ => rfl⟩, keeps_setReg s r v⟩
  | hl => exact ⟨stores_writeMem s _ v, keeps_writeMem s _ v⟩
  | ix d => exact ⟨stores_writeMem s _ v, keeps_writeMem s _ v⟩
  | iy d => exact ⟨stores_writeMem s _ v, keeps_writeMem s _ v⟩

/-- A push stores its word just below the old SP and moves SP there (R303). -/
theorem State.push16_spec (s : State) (v : Word) :
    StoresWord (s.sp - 2) v s (s.push16 v) ∧ (s.push16 v).sp = s.sp - 2 ∧
      KeepsAllBut [.mem, .sp] s (s.push16 v) := by
  have h : s.sp - 2 + 1 = s.sp - 1 := by bv_omega
  have hne : s.sp - 1 ≠ s.sp - 2 := by bv_omega
  refine ⟨⟨?_, ?_, fun x h1 h2 => ?_⟩, rfl, ?_⟩
  · show ((s.writeMem _ _).writeMem _ _).readMem _ = _
    simp [State.readMem_writeMem]
  · show ((s.writeMem _ _).writeMem _ _).readMem _ = _
    rw [h]
    rw [State.readMem_writeMem, if_neg hne, State.readMem_writeMem, if_pos rfl]
  · show ((s.writeMem _ _).writeMem _ _).readMem _ = _
    rw [h] at h2
    rw [State.readMem_writeMem, if_neg h1, State.readMem_writeMem, if_neg h2]
  · exact (((keeps_writeMem s _ _).trans (keeps_writeMem _ _ _)).trans (keeps_setSP _ _)).mono (by simp)

/-! ### The effects of a form -/

/-- `op A,s`: A, but for CP, and all the flags; nothing else. -/
theorem State.alu_spec (s : State) (op : AluOp) (o : Src8) :
    (s.alu op o).regs.a =
        (if op.writesA then (op.compute s.regs.a (o.read s) s.flags.c).res else s.regs.a) ∧
      (s.alu op o).flags = (op.compute s.regs.a (o.read s) s.flags.c).flags ∧
      KeepsAllBut ((if op.writesA then [.reg .a] else []) ++ allFlags) s (s.alu op o) := by
  unfold State.alu
  split
  · exact ⟨rfl, by simp, (keeps_setA s _).trans (keeps_setFlags _ _)⟩
  · exact ⟨rfl, by simp, (KeepsAllBut.refl s).trans (keeps_setFlags _ _)⟩

/-- Writing an operand and then the flags: what INC, DEC and the CB rotates and shifts end in. -/
theorem Loc8.write_setFlags_spec (l : Loc8) (v : Byte) (fl : Flags) (s : State) :
    WritesLoc l v s ((l.write v s).setFlags fl) ∧ ((l.write v s).setFlags fl).flags = fl ∧
      KeepsAllBut (l.part :: allFlags) s ((l.write v s).setFlags fl) := by
  obtain ⟨hw, hk⟩ := l.write_spec v s
  refine ⟨?_, by simp, hk.trans (keeps_setFlags _ _)⟩
  cases l with
  | reg r => exact ⟨by have := hw.1; cases r <;> exact this, fun _ => rfl⟩
  | _ => exact hw

theorem State.incLoc_spec (s : State) (l : Loc8) :
    WritesLoc l (l.read s + 1) s (s.incLoc l) ∧
      (s.incLoc l).flags = (inc8 (l.read s) s.flags.c).flags ∧
      KeepsAllBut (l.part :: allFlags) s (s.incLoc l) := by
  have h : (inc8 (l.read s) s.flags.c).res = l.read s + 1 := by
    apply BitVec.eq_of_toNat_eq
    show (add8 (l.read s) 1 false).res.toNat = _
    simp [add8_res, BitVec.toNat_add]
  rw [← h]
  exact l.write_setFlags_spec _ _ s

theorem State.decLoc_spec (s : State) (l : Loc8) :
    WritesLoc l (l.read s - 1) s (s.decLoc l) ∧
      (s.decLoc l).flags = (dec8 (l.read s) s.flags.c).flags ∧
      KeepsAllBut (l.part :: allFlags) s (s.decLoc l) := by
  have h : (dec8 (l.read s) s.flags.c).res = l.read s - 1 := by
    apply BitVec.eq_of_toNat_eq
    have := sub8_res (l.read s) 1 false
    show (sub8 (l.read s) 1 false).res.toNat = _
    simp only [Bool.toNat_false, BitVec.toNat_sub] at this ⊢
    have hv := (l.read s).isLt
    simp at this ⊢
    omega
  rw [← h]
  exact l.write_setFlags_spec _ _ s

theorem State.rotLoc_spec (s : State) (k : RotOp) (l : Loc8) :
    WritesLoc l (rot8 k (l.read s) s.flags.c).res s (s.rotLoc k l) ∧
      (s.rotLoc k l).flags = (rot8 k (l.read s) s.flags.c).flags ∧
      KeepsAllBut (l.part :: allFlags) s (s.rotLoc k l) := l.write_setFlags_spec _ _ s

theorem State.rotA_spec (s : State) (k : RotOp) :
    (s.rotA k).regs.a = k.result s.regs.a s.flags.c ∧
      (s.rotA k).flags = { s.flags with h := false, n := false, c := k.carry s.regs.a } ∧
      KeepsAllBut (.reg .a :: allFlags) s (s.rotA k) :=
  ⟨rfl, State.flags_setFlags _ _, (keeps_setA s _).trans (keeps_setFlags _ _)⟩

theorem State.bitTest_spec (s : State) (b : Fin 8) (l : Loc8) :
    (s.bitTest b l).flags = bitFlags b (l.read s) (s.freeBit 0) (s.freeBit 1) s.flags ∧
      (s.bitTest b l).draws = s.draws + 2 ∧ KeepsAllBut (allFlags ++ [.draws]) s (s.bitTest b l) :=
  ⟨State.flags_setFlags _ _, rfl, (keeps_setFlags s _).trans (keeps_useDraws _ _)⟩

theorem State.setBit_spec (s : State) (b : Fin 8) (l : Loc8) :
    WritesLoc l (l.read s ||| (1#8 <<< b.val)) s (s.setBit b l) ∧ KeepsAllBut [l.part] s (s.setBit b l) :=
  l.write_spec _ s

theorem State.resBit_spec (s : State) (b : Fin 8) (l : Loc8) :
    WritesLoc l (l.read s &&& ~~~(1#8 <<< b.val)) s (s.resBit b l) ∧
      KeepsAllBut [l.part] s (s.resBit b l) := l.write_spec _ s

theorem State.blockMove_spec (s : State) (k : Cursor) :
    StoresByte s.de (s.readMem s.hl) s (s.blockMove k) ∧ (s.blockMove k).hl = k.move s.hl ∧
      (s.blockMove k).de = k.move s.de ∧ (s.blockMove k).bc = s.bc - 1 ∧
      (s.blockMove k).flags = blockMoveFlags (s.bc - 1) s.flags ∧
      KeepsAllBut ([.mem, .reg .h, .reg .l, .reg .d, .reg .e, .reg .b, .reg .c] ++ allFlags) s
        (s.blockMove k) :=
  ⟨stores_writeMem s _ _, joinBytes_hi_lo _, joinBytes_hi_lo _, joinBytes_hi_lo _,
    State.flags_setFlags _ _,
    ((((keeps_writeMem s _ _).trans (keeps_setHL _ _)).trans (keeps_setDE _ _)).trans
      (keeps_setBC _ _)).trans (keeps_setFlags _ _)⟩

theorem State.blockSearch_spec (s : State) (k : Cursor) :
    (s.blockSearch k).hl = k.move s.hl ∧ (s.blockSearch k).bc = s.bc - 1 ∧
      (s.blockSearch k).flags =
        blockSearchFlags (sub8 s.regs.a (s.readMem s.hl) false).flags (s.bc - 1) s.flags ∧
      KeepsAllBut ([.reg .h, .reg .l, .reg .b, .reg .c] ++ allFlags) s (s.blockSearch k) :=
  ⟨joinBytes_hi_lo _, joinBytes_hi_lo _, State.flags_setFlags _ _,
    ((keeps_setHL s _).trans (keeps_setBC _ _)).trans (keeps_setFlags _ _)⟩

theorem State.blockIn_spec (s : State) (k : Cursor) :
    StoresByte s.hl (s.readPort s.bc) s (s.blockIn k) ∧ (s.blockIn k).hl = k.move s.hl ∧
      (s.blockIn k).regs.b = s.regs.b - 1 ∧
      (s.blockIn k).flags = blockIoFlags (s.regs.b - 1) (s.freeBit 0) (s.freeBit 1) (s.freeBit 2) s.flags ∧
      (s.blockIn k).draws = s.draws + 3 ∧
      KeepsAllBut ([.mem, .reg .h, .reg .l, .reg .b] ++ allFlags ++ [.draws]) s (s.blockIn k) :=
  ⟨stores_writeMem s _ _, joinBytes_hi_lo _, rfl, State.flags_setFlags _ _, rfl,
    ((((keeps_writeMem s _ _).trans (keeps_setHL _ _)).trans (keeps_setB _ _)).trans
      (keeps_setFlags _ _)).trans (keeps_useDraws _ _)⟩

theorem State.blockOut_spec (s : State) (k : Cursor) :
    WritesPort (joinBytes (s.regs.b - 1) s.regs.c) (s.readMem s.hl) s (s.blockOut k) ∧
      (s.blockOut k).hl = k.move s.hl ∧ (s.blockOut k).regs.b = s.regs.b - 1 ∧
      (s.blockOut k).flags =
        blockIoFlags (s.regs.b - 1) (s.freeBit 0) (s.freeBit 1) (s.freeBit 2) s.flags ∧
      (s.blockOut k).draws = s.draws + 3 ∧
      KeepsAllBut ([.reg .b, .port, .reg .h, .reg .l] ++ allFlags ++ [.draws]) s (s.blockOut k) :=
  ⟨writes_writePort s _ _, joinBytes_hi_lo _, rfl, State.flags_setFlags _ _, rfl,
    ((((keeps_setB s _).trans (keeps_writePort _ _ _)).trans (keeps_setHL _ _)).trans
      (keeps_setFlags _ _)).trans (keeps_useDraws _ _)⟩

theorem State.repeatIf_spec (s : State) (again : Bool) :
    (s.repeatIf again).pc = (if again then s.pc - 2 else s.pc) ∧
      KeepsAllBut [.pc] s (s.repeatIf again) := by
  cases again
  · exact ⟨rfl, (keeps_tick s 16).mono (by simp)⟩
  · exact ⟨rfl, (keeps_setPC s _).trans (keeps_tick _ 21)⟩

theorem State.callTo_spec (s : State) (target : Word) :
    StoresWord (s.sp - 2) s.pc s (s.callTo target) ∧ (s.callTo target).sp = s.sp - 2 ∧
      (s.callTo target).pc = target ∧ KeepsAllBut [.mem, .sp, .pc] s (s.callTo target) := by
  obtain ⟨hw, hsp, hk⟩ := s.push16_spec s.pc
  exact ⟨hw, hsp, rfl, hk.trans (keeps_setPC _ _)⟩

theorem State.returnTo_spec (s : State) :
    s.returnTo.pc = s.readMem16 s.sp ∧ s.returnTo.sp = s.sp + 2 ∧ KeepsAllBut [.pc, .sp] s s.returnTo :=
  ⟨rfl, rfl, (keeps_setPC s _).trans (keeps_setSP _ _)⟩

end Sys2Proof.Machine
end

