-- ==== Sys2Proof/Laws/Decode.lean ====
section
/-! SUPPORT. Decoding the operand bytes that the encoder writes, and decoding opcodes that hold a 3-bit field:
what a proof about a family of encodings cites. -/

namespace Sys2Proof

/-- An `nn` laid out low byte first is read back (R300, R420). -/
@[simp] theorem withWord_loByte_hiByte (nn : Word) (rest : List Byte) (k : Word → List Byte → Decoded) :
    withWord (loByte nn :: hiByte nn :: rest) k = k nn rest := by
  simp [withWord]

@[simp] theorem withByte_cons (n : Byte) (rest : List Byte) (k : Byte → List Byte → Decoded) :
    withByte (n :: rest) k = k n rest := rfl

/-- A property of all bit or restart numbers, one by one. -/
theorem forall_field3 {p : Fin 8 → Prop} (h : p 0 ∧ p 1 ∧ p 2 ∧ p 3 ∧ p 4 ∧ p 5 ∧ p 6 ∧ p 7) (b : Fin 8) :
    p b := by
  obtain ⟨h0, h1, h2, h3, h4, h5, h6, h7⟩ := h
  match b with
  | 0 => exact h0
  | 1 => exact h1
  | 2 => exact h2
  | 3 => exact h3
  | 4 => exact h4
  | 5 => exact h5
  | 6 => exact h6
  | 7 => exact h7

/-- A property of every byte holds if it holds of the 256 numbers: how a proof goes through an opcode map. -/
theorem forall_byte {p : Byte → Prop} (h : ∀ n, n < 256 → p (BitVec.ofNat 8 n)) (op : Byte) : p op := by
  have := h op.toNat op.isLt
  rwa [BitVec.ofNat_toNat, BitVec.setWidth_eq] at this

end Sys2Proof
end

