-- ==== Sys2Proof/Laws/HostOps.lean ====
section
/-! SUPPORT. What the host's actions do: reset field by field, the load's frame, and what a preset in
a register set leaves alone. -/

namespace Sys2Proof.Machine

section HostReset
variable (s : State) (draw : ResetDraw)
@[simp] theorem State.hostReset_regs : (s.hostReset draw).regs = draw.regs := rfl
@[simp] theorem State.hostReset_shadow : (s.hostReset draw).shadow = draw.shadow := rfl
@[simp] theorem State.hostReset_ix : (s.hostReset draw).ix = draw.ix := rfl
@[simp] theorem State.hostReset_iy : (s.hostReset draw).iy = draw.iy := rfl
@[simp] theorem State.hostReset_sp : (s.hostReset draw).sp = draw.sp := rfl
@[simp] theorem State.hostReset_pc : (s.hostReset draw).pc = Config.resetPC := rfl
@[simp] theorem State.hostReset_i : (s.hostReset draw).i = 0x00 := rfl
@[simp] theorem State.hostReset_r : (s.hostReset draw).r = 0x00 := rfl
@[simp] theorem State.hostReset_iff1 : (s.hostReset draw).iff1 = false := rfl
@[simp] theorem State.hostReset_iff2 : (s.hostReset draw).iff2 = false := rfl
@[simp] theorem State.hostReset_im : (s.hostReset draw).im = .im0 := rfl
@[simp] theorem State.hostReset_halt : (s.hostReset draw).halt = false := rfl
@[simp] theorem State.hostReset_mem : (s.hostReset draw).mem = draw.mem := rfl
@[simp] theorem State.hostReset_port : (s.hostReset draw).port = draw.port := rfl
@[simp] theorem State.hostReset_tCycles : (s.hostReset draw).tCycles = 0 := rfl
@[simp] theorem State.hostReset_unimplSeen : (s.hostReset draw).unimplSeen = false := rfl
@[simp] theorem State.hostReset_diag : (s.hostReset draw).diag = none := rfl
@[simp] theorem State.hostReset_draws : (s.hostReset draw).draws = s.draws := rfl
end HostReset

/-- The load touches memory only. -/
theorem keeps_load (s : State) (bytes : List Byte) (addr : Word) :
    KeepsAllBut [.mem] s (s.load bytes addr) := by
  unfold State.load
  induction bytes generalizing s addr with
  | nil => exact (KeepsAllBut.refl s).mono (by simp)
  | cons v vs ih => exact ((keeps_writeMem s addr v).trans (ih _ _)).mono (by simp)

/-- A preset of a register set reaches no other part of the state. -/
theorem State.setRegSet_fields (s : State) (alt : Bool) (rs : RegSet) :
    (s.setRegSet alt rs).halt = s.halt ∧ (s.setRegSet alt rs).unimplSeen = s.unimplSeen ∧
      (s.setRegSet alt rs).draws = s.draws := by
  cases alt <;> exact ⟨rfl, rfl, rfl⟩

end Sys2Proof.Machine
end

