-- ==== Sys2Proof/Laws/PerInstr.lean ====
section
/-! SUPPORT. Facts about every instruction as syntax, one lemma per constructor. Family EncodeLength: the
encoding has the length the opcode table gives the row, 1 to 4 bytes (R400). -/

namespace Sys2Proof.Laws

/-- The length in bytes of each row of spec/opcode_table.json. -/
def tableLength : Instr → Nat
  | .ldRR _ _ | .ldRHl _ | .ldHlR _ | .ldABc | .ldADe | .ldBcA | .ldDeA | .ldSpHl | .pushQq _ | .popQq _
    | .addAR _ | .addAHl | .adcAR _ | .adcAHl | .subR _ | .subHl | .sbcAR _ | .sbcAHl | .andR _ | .andHl
    | .orR _ | .orHl | .xorR _ | .xorHl | .cpR _ | .cpHl | .incR _ | .incHl | .decR _ | .decHl
    | .addHlSs _ | .incSs _ | .decSs _ | .exDeHl | .exAfAf | .exx | .exSpHl | .rlca | .rla | .rrca | .rra
    | .jpHl | .ret | .retCc _ | .rst _ | .daa | .cpl | .ccf | .scf | .nop | .halt | .di | .ei => 1
  | .ldRN _ _ | .ldHlN _ | .ldAI | .ldAR | .ldIA | .ldRA | .ldSpIx | .ldSpIy | .pushIx | .pushIy | .popIx
    | .popIy | .addAN _ | .adcAN _ | .subN _ | .sbcAN _ | .andN _ | .orN _ | .xorN _ | .cpN _ | .adcHlSs _
    | .sbcHlSs _ | .addIxPp _ | .addIyRr _ | .incIx | .incIy | .decIx | .decIy | .exSpIx | .exSpIy | .ldi
    | .ldir | .ldd | .lddr | .cpi | .cpir | .cpd | .cpdr | .rlcR _ | .rlcHl | .rlR _ | .rlHl | .rrcR _
    | .rrcHl | .rrR _ | .rrHl | .slaR _ | .slaHl | .sraR _ | .sraHl | .srlR _ | .srlHl | .rld | .rrd
    | .bitR _ _ | .bitHl _ | .setR _ _ | .setHl _ | .resR _ _ | .resHl _ | .jrE _ | .jrC _ | .jrNc _
    | .jrZ _ | .jrNz _ | .jpIx | .jpIy | .djnz _ | .reti | .retn | .inAN _ | .inRC _ | .ini | .inir | .ind
    | .indr | .outNA _ | .outCR _ | .outi | .otir | .outd | .otdr | .neg | .im0 | .im1 | .im2
    | .unimplCb _ | .unimplEd _ | .unimplDd _ | .unimplFd _ => 2
  | .ldRIxD _ _ | .ldRIyD _ _ | .ldIxDR _ _ | .ldIyDR _ _ | .ldANn _ | .ldNnA _ | .ldDdNn _ _ | .ldHlMem _
    | .ldMemHl _ | .addAIxD _ | .addAIyD _ | .adcAIxD _ | .adcAIyD _ | .subIxD _ | .subIyD _ | .sbcAIxD _
    | .sbcAIyD _ | .andIxD _ | .andIyD _ | .orIxD _ | .orIyD _ | .xorIxD _ | .xorIyD _ | .cpIxD _
    | .cpIyD _ | .incIxD _ | .incIyD _ | .decIxD _ | .decIyD _ | .jpNn _ | .jpCcNn _ _ | .callNn _
    | .callCcNn _ _ => 3
  | .ldIxDN _ _ | .ldIyDN _ _ | .ldIxNn _ | .ldIyNn _ | .ldDdMem _ _ | .ldIxMem _ | .ldIyMem _
    | .ldMemDd _ _ | .ldMemIx _ | .ldMemIy _ | .rlcIxD _ | .rlcIyD _ | .rlIxD _ | .rlIyD _ | .rrcIxD _
    | .rrcIyD _ | .rrIxD _ | .rrIyD _ | .slaIxD _ | .slaIyD _ | .sraIxD _ | .sraIyD _ | .srlIxD _
    | .srlIyD _ | .bitIxD _ _ | .bitIyD _ _ | .setIxD _ _ | .setIyD _ _ | .resIxD _ _ | .resIyD _ _
    | .unimplDdCb _ _ | .unimplFdCb _ _ => 4

def EncodeLength.Statement (i : Instr) : Prop :=
  (encode i).length = tableLength i

theorem EncodeLength.ldRR (r : Reg8) (r' : Reg8) :
    EncodeLength.Statement (.ldRR r r') := rfl
theorem EncodeLength.ldRN (r : Reg8) (n : Byte) :
    EncodeLength.Statement (.ldRN r n) := rfl
theorem EncodeLength.ldRHl (r : Reg8) :
    EncodeLength.Statement (.ldRHl r) := rfl
theorem EncodeLength.ldRIxD (r : Reg8) (d : Byte) :
    EncodeLength.Statement (.ldRIxD r d) := rfl
theorem EncodeLength.ldRIyD (r : Reg8) (d : Byte) :
    EncodeLength.Statement (.ldRIyD r d) := rfl
theorem EncodeLength.ldHlR (r : Reg8) :
    EncodeLength.Statement (.ldHlR r) := rfl
theorem EncodeLength.ldIxDR (d : Byte) (r : Reg8) :
    EncodeLength.Statement (.ldIxDR d r) := rfl
theorem EncodeLength.ldIyDR (d : Byte) (r : Reg8) :
    EncodeLength.Statement (.ldIyDR d r) := rfl
theorem EncodeLength.ldHlN (n : Byte) :
    EncodeLength.Statement (.ldHlN n) := rfl
theorem EncodeLength.ldIxDN (d : Byte) (n : Byte) :
    EncodeLength.Statement (.ldIxDN d n) := rfl
theorem EncodeLength.ldIyDN (d : Byte) (n : Byte) :
    EncodeLength.Statement (.ldIyDN d n) := rfl
theorem EncodeLength.ldABc :
    EncodeLength.Statement .ldABc := rfl
theorem EncodeLength.ldADe :
    EncodeLength.Statement .ldADe := rfl
theorem EncodeLength.ldANn (nn : Word) :
    EncodeLength.Statement (.ldANn nn) := rfl
theorem EncodeLength.ldBcA :
    EncodeLength.Statement .ldBcA := rfl
theorem EncodeLength.ldDeA :
    EncodeLength.Statement .ldDeA := rfl
theorem EncodeLength.ldNnA (nn : Word) :
    EncodeLength.Statement (.ldNnA nn) := rfl
theorem EncodeLength.ldAI :
    EncodeLength.Statement .ldAI := rfl
theorem EncodeLength.ldAR :
    EncodeLength.Statement .ldAR := rfl
theorem EncodeLength.ldIA :
    EncodeLength.Statement .ldIA := rfl
theorem EncodeLength.ldRA :
    EncodeLength.Statement .ldRA := rfl
theorem EncodeLength.ldDdNn (dd : PairDD) (nn : Word) :
    EncodeLength.Statement (.ldDdNn dd nn) := rfl
theorem EncodeLength.ldIxNn (nn : Word) :
    EncodeLength.Statement (.ldIxNn nn) := rfl
theorem EncodeLength.ldIyNn (nn : Word) :
    EncodeLength.Statement (.ldIyNn nn) := rfl
theorem EncodeLength.ldHlMem (nn : Word) :
    EncodeLength.Statement (.ldHlMem nn) := rfl
theorem EncodeLength.ldDdMem (dd : PairDD) (nn : Word) :
    EncodeLength.Statement (.ldDdMem dd nn) := rfl
theorem EncodeLength.ldIxMem (nn : Word) :
    EncodeLength.Statement (.ldIxMem nn) := rfl
theorem EncodeLength.ldIyMem (nn : Word) :
    EncodeLength.Statement (.ldIyMem nn) := rfl
theorem EncodeLength.ldMemHl (nn : Word) :
    EncodeLength.Statement (.ldMemHl nn) := rfl
theorem EncodeLength.ldMemDd (nn : Word) (dd : PairDD) :
    EncodeLength.Statement (.ldMemDd nn dd) := rfl
theorem EncodeLength.ldMemIx (nn : Word) :
    EncodeLength.Statement (.ldMemIx nn) := rfl
theorem EncodeLength.ldMemIy (nn : Word) :
    EncodeLength.Statement (.ldMemIy nn) := rfl
theorem EncodeLength.ldSpHl :
    EncodeLength.Statement .ldSpHl := rfl
theorem EncodeLength.ldSpIx :
    EncodeLength.Statement .ldSpIx := rfl
theorem EncodeLength.ldSpIy :
    EncodeLength.Statement .ldSpIy := rfl
theorem EncodeLength.pushQq (qq : PairQQ) :
    EncodeLength.Statement (.pushQq qq) := rfl
theorem EncodeLength.pushIx :
    EncodeLength.Statement .pushIx := rfl
theorem EncodeLength.pushIy :
    EncodeLength.Statement .pushIy := rfl
theorem EncodeLength.popQq (qq : PairQQ) :
    EncodeLength.Statement (.popQq qq) := rfl
theorem EncodeLength.popIx :
    EncodeLength.Statement .popIx := rfl
theorem EncodeLength.popIy :
    EncodeLength.Statement .popIy := rfl
theorem EncodeLength.addAR (r : Reg8) :
    EncodeLength.Statement (.addAR r) := rfl
theorem EncodeLength.addAN (n : Byte) :
    EncodeLength.Statement (.addAN n) := rfl
theorem EncodeLength.addAHl :
    EncodeLength.Statement .addAHl := rfl
theorem EncodeLength.addAIxD (d : Byte) :
    EncodeLength.Statement (.addAIxD d) := rfl
theorem EncodeLength.addAIyD (d : Byte) :
    EncodeLength.Statement (.addAIyD d) := rfl
theorem EncodeLength.adcAR (r : Reg8) :
    EncodeLength.Statement (.adcAR r) := rfl
theorem EncodeLength.adcAN (n : Byte) :
    EncodeLength.Statement (.adcAN n) := rfl
theorem EncodeLength.adcAHl :
    EncodeLength.Statement .adcAHl := rfl
theorem EncodeLength.adcAIxD (d : Byte) :
    EncodeLength.Statement (.adcAIxD d) := rfl
theorem EncodeLength.adcAIyD (d : Byte) :
    EncodeLength.Statement (.adcAIyD d) := rfl
theorem EncodeLength.subR (r : Reg8) :
    EncodeLength.Statement (.subR r) := rfl
theorem EncodeLength.subN (n : Byte) :
    EncodeLength.Statement (.subN n) := rfl
theorem EncodeLength.subHl :
    EncodeLength.Statement .subHl := rfl
theorem EncodeLength.subIxD (d : Byte) :
    EncodeLength.Statement (.subIxD d) := rfl
theorem EncodeLength.subIyD (d : Byte) :
    EncodeLength.Statement (.subIyD d) := rfl
theorem EncodeLength.sbcAR (r : Reg8) :
    EncodeLength.Statement (.sbcAR r) := rfl
theorem EncodeLength.sbcAN (n : Byte) :
    EncodeLength.Statement (.sbcAN n) := rfl
theorem EncodeLength.sbcAHl :
    EncodeLength.Statement .sbcAHl := rfl
theorem EncodeLength.sbcAIxD (d : Byte) :
    EncodeLength.Statement (.sbcAIxD d) := rfl
theorem EncodeLength.sbcAIyD (d : Byte) :
    EncodeLength.Statement (.sbcAIyD d) := rfl
theorem EncodeLength.andR (r : Reg8) :
    EncodeLength.Statement (.andR r) := rfl
theorem EncodeLength.andN (n : Byte) :
    EncodeLength.Statement (.andN n) := rfl
theorem EncodeLength.andHl :
    EncodeLength.Statement .andHl := rfl
theorem EncodeLength.andIxD (d : Byte) :
    EncodeLength.Statement (.andIxD d) := rfl
theorem EncodeLength.andIyD (d : Byte) :
    EncodeLength.Statement (.andIyD d) := rfl
theorem EncodeLength.orR (r : Reg8) :
    EncodeLength.Statement (.orR r) := rfl
theorem EncodeLength.orN (n : Byte) :
    EncodeLength.Statement (.orN n) := rfl
theorem EncodeLength.orHl :
    EncodeLength.Statement .orHl := rfl
theorem EncodeLength.orIxD (d : Byte) :
    EncodeLength.Statement (.orIxD d) := rfl
theorem EncodeLength.orIyD (d : Byte) :
    EncodeLength.Statement (.orIyD d) := rfl
theorem EncodeLength.xorR (r : Reg8) :
    EncodeLength.Statement (.xorR r) := rfl
theorem EncodeLength.xorN (n : Byte) :
    EncodeLength.Statement (.xorN n) := rfl
theorem EncodeLength.xorHl :
    EncodeLength.Statement .xorHl := rfl
theorem EncodeLength.xorIxD (d : Byte) :
    EncodeLength.Statement (.xorIxD d) := rfl
theorem EncodeLength.xorIyD (d : Byte) :
    EncodeLength.Statement (.xorIyD d) := rfl
theorem EncodeLength.cpR (r : Reg8) :
    EncodeLength.Statement (.cpR r) := rfl
theorem EncodeLength.cpN (n : Byte) :
    EncodeLength.Statement (.cpN n) := rfl
theorem EncodeLength.cpHl :
    EncodeLength.Statement .cpHl := rfl
theorem EncodeLength.cpIxD (d : Byte) :
    EncodeLength.Statement (.cpIxD d) := rfl
theorem EncodeLength.cpIyD (d : Byte) :
    EncodeLength.Statement (.cpIyD d) := rfl
theorem EncodeLength.incR (r : Reg8) :
    EncodeLength.Statement (.incR r) := rfl
theorem EncodeLength.incHl :
    EncodeLength.Statement .incHl := rfl
theorem EncodeLength.incIxD (d : Byte) :
    EncodeLength.Statement (.incIxD d) := rfl
theorem EncodeLength.incIyD (d : Byte) :
    EncodeLength.Statement (.incIyD d) := rfl
theorem EncodeLength.decR (r : Reg8) :
    EncodeLength.Statement (.decR r) := rfl
theorem EncodeLength.decHl :
    EncodeLength.Statement .decHl := rfl
theorem EncodeLength.decIxD (d : Byte) :
    EncodeLength.Statement (.decIxD d) := rfl
theorem EncodeLength.decIyD (d : Byte) :
    EncodeLength.Statement (.decIyD d) := rfl
theorem EncodeLength.addHlSs (ss : PairDD) :
    EncodeLength.Statement (.addHlSs ss) := rfl
theorem EncodeLength.adcHlSs (ss : PairDD) :
    EncodeLength.Statement (.adcHlSs ss) := rfl
theorem EncodeLength.sbcHlSs (ss : PairDD) :
    EncodeLength.Statement (.sbcHlSs ss) := rfl
theorem EncodeLength.addIxPp (pp : PairPP) :
    EncodeLength.Statement (.addIxPp pp) := rfl
theorem EncodeLength.addIyRr (rr : PairRR) :
    EncodeLength.Statement (.addIyRr rr) := rfl
theorem EncodeLength.incSs (ss : PairDD) :
    EncodeLength.Statement (.incSs ss) := rfl
theorem EncodeLength.incIx :
    EncodeLength.Statement .incIx := rfl
theorem EncodeLength.incIy :
    EncodeLength.Statement .incIy := rfl
theorem EncodeLength.decSs (ss : PairDD) :
    EncodeLength.Statement (.decSs ss) := rfl
theorem EncodeLength.decIx :
    EncodeLength.Statement .decIx := rfl
theorem EncodeLength.decIy :
    EncodeLength.Statement .decIy := rfl
theorem EncodeLength.exDeHl :
    EncodeLength.Statement .exDeHl := rfl
theorem EncodeLength.exAfAf :
    EncodeLength.Statement .exAfAf := rfl
theorem EncodeLength.exx :
    EncodeLength.Statement .exx := rfl
theorem EncodeLength.exSpHl :
    EncodeLength.Statement .exSpHl := rfl
theorem EncodeLength.exSpIx :
    EncodeLength.Statement .exSpIx := rfl
theorem EncodeLength.exSpIy :
    EncodeLength.Statement .exSpIy := rfl
theorem EncodeLength.ldi :
    EncodeLength.Statement .ldi := rfl
theorem EncodeLength.ldir :
    EncodeLength.Statement .ldir := rfl
theorem EncodeLength.ldd :
    EncodeLength.Statement .ldd := rfl
theorem EncodeLength.lddr :
    EncodeLength.Statement .lddr := rfl
theorem EncodeLength.cpi :
    EncodeLength.Statement .cpi := rfl
theorem EncodeLength.cpir :
    EncodeLength.Statement .cpir := rfl
theorem EncodeLength.cpd :
    EncodeLength.Statement .cpd := rfl
theorem EncodeLength.cpdr :
    EncodeLength.Statement .cpdr := rfl
theorem EncodeLength.rlca :
    EncodeLength.Statement .rlca := rfl
theorem EncodeLength.rla :
    EncodeLength.Statement .rla := rfl
theorem EncodeLength.rrca :
    EncodeLength.Statement .rrca := rfl
theorem EncodeLength.rra :
    EncodeLength.Statement .rra := rfl
theorem EncodeLength.rlcR (r : Reg8) :
    EncodeLength.Statement (.rlcR r) := rfl
theorem EncodeLength.rlcHl :
    EncodeLength.Statement .rlcHl := rfl
theorem EncodeLength.rlcIxD (d : Byte) :
    EncodeLength.Statement (.rlcIxD d) := rfl
theorem EncodeLength.rlcIyD (d : Byte) :
    EncodeLength.Statement (.rlcIyD d) := rfl
theorem EncodeLength.rlR (r : Reg8) :
    EncodeLength.Statement (.rlR r) := rfl
theorem EncodeLength.rlHl :
    EncodeLength.Statement .rlHl := rfl
theorem EncodeLength.rlIxD (d : Byte) :
    EncodeLength.Statement (.rlIxD d) := rfl
theorem EncodeLength.rlIyD (d : Byte) :
    EncodeLength.Statement (.rlIyD d) := rfl
theorem EncodeLength.rrcR (r : Reg8) :
    EncodeLength.Statement (.rrcR r) := rfl
theorem EncodeLength.rrcHl :
    EncodeLength.Statement .rrcHl := rfl
theorem EncodeLength.rrcIxD (d : Byte) :
    EncodeLength.Statement (.rrcIxD d) := rfl
theorem EncodeLength.rrcIyD (d : Byte) :
    EncodeLength.Statement (.rrcIyD d) := rfl
theorem EncodeLength.rrR (r : Reg8) :
    EncodeLength.Statement (.rrR r) := rfl
theorem EncodeLength.rrHl :
    EncodeLength.Statement .rrHl := rfl
theorem EncodeLength.rrIxD (d : Byte) :
    EncodeLength.Statement (.rrIxD d) := rfl
theorem EncodeLength.rrIyD (d : Byte) :
    EncodeLength.Statement (.rrIyD d) := rfl
theorem EncodeLength.slaR (r : Reg8) :
    EncodeLength.Statement (.slaR r) := rfl
theorem EncodeLength.slaHl :
    EncodeLength.Statement .slaHl := rfl
theorem EncodeLength.slaIxD (d : Byte) :
    EncodeLength.Statement (.slaIxD d) := rfl
theorem EncodeLength.slaIyD (d : Byte) :
    EncodeLength.Statement (.slaIyD d) := rfl
theorem EncodeLength.sraR (r : Reg8) :
    EncodeLength.Statement (.sraR r) := rfl
theorem EncodeLength.sraHl :
    EncodeLength.Statement .sraHl := rfl
theorem EncodeLength.sraIxD (d : Byte) :
    EncodeLength.Statement (.sraIxD d) := rfl
theorem EncodeLength.sraIyD (d : Byte) :
    EncodeLength.Statement (.sraIyD d) := rfl
theorem EncodeLength.srlR (r : Reg8) :
    EncodeLength.Statement (.srlR r) := rfl
theorem EncodeLength.srlHl :
    EncodeLength.Statement .srlHl := rfl
theorem EncodeLength.srlIxD (d : Byte) :
    EncodeLength.Statement (.srlIxD d) := rfl
theorem EncodeLength.srlIyD (d : Byte) :
    EncodeLength.Statement (.srlIyD d) := rfl
theorem EncodeLength.rld :
    EncodeLength.Statement .rld := rfl
theorem EncodeLength.rrd :
    EncodeLength.Statement .rrd := rfl
theorem EncodeLength.bitR (b : Fin 8) (r : Reg8) :
    EncodeLength.Statement (.bitR b r) := rfl
theorem EncodeLength.bitHl (b : Fin 8) :
    EncodeLength.Statement (.bitHl b) := rfl
theorem EncodeLength.bitIxD (b : Fin 8) (d : Byte) :
    EncodeLength.Statement (.bitIxD b d) := rfl
theorem EncodeLength.bitIyD (b : Fin 8) (d : Byte) :
    EncodeLength.Statement (.bitIyD b d) := rfl
theorem EncodeLength.setR (b : Fin 8) (r : Reg8) :
    EncodeLength.Statement (.setR b r) := rfl
theorem EncodeLength.setHl (b : Fin 8) :
    EncodeLength.Statement (.setHl b) := rfl
theorem EncodeLength.setIxD (b : Fin 8) (d : Byte) :
    EncodeLength.Statement (.setIxD b d) := rfl
theorem EncodeLength.setIyD (b : Fin 8) (d : Byte) :
    EncodeLength.Statement (.setIyD b d) := rfl
theorem EncodeLength.resR (b : Fin 8) (r : Reg8) :
    EncodeLength.Statement (.resR b r) := rfl
theorem EncodeLength.resHl (b : Fin 8) :
    EncodeLength.Statement (.resHl b) := rfl
theorem EncodeLength.resIxD (b : Fin 8) (d : Byte) :
    EncodeLength.Statement (.resIxD b d) := rfl
theorem EncodeLength.resIyD (b : Fin 8) (d : Byte) :
    EncodeLength.Statement (.resIyD b d) := rfl
theorem EncodeLength.jpNn (nn : Word) :
    EncodeLength.Statement (.jpNn nn) := rfl
theorem EncodeLength.jpCcNn (cc : Cond) (nn : Word) :
    EncodeLength.Statement (.jpCcNn cc nn) := rfl
theorem EncodeLength.jrE (e : Byte) :
    EncodeLength.Statement (.jrE e) := rfl
theorem EncodeLength.jrC (e : Byte) :
    EncodeLength.Statement (.jrC e) := rfl
theorem EncodeLength.jrNc (e : Byte) :
    EncodeLength.Statement (.jrNc e) := rfl
theorem EncodeLength.jrZ (e : Byte) :
    EncodeLength.Statement (.jrZ e) := rfl
theorem EncodeLength.jrNz (e : Byte) :
    EncodeLength.Statement (.jrNz e) := rfl
theorem EncodeLength.jpHl :
    EncodeLength.Statement .jpHl := rfl
theorem EncodeLength.jpIx :
    EncodeLength.Statement .jpIx := rfl
theorem EncodeLength.jpIy :
    EncodeLength.Statement .jpIy := rfl
theorem EncodeLength.djnz (e : Byte) :
    EncodeLength.Statement (.djnz e) := rfl
theorem EncodeLength.callNn (nn : Word) :
    EncodeLength.Statement (.callNn nn) := rfl
theorem EncodeLength.callCcNn (cc : Cond) (nn : Word) :
    EncodeLength.Statement (.callCcNn cc nn) := rfl
theorem EncodeLength.ret :
    EncodeLength.Statement .ret := rfl
theorem EncodeLength.retCc (cc : Cond) :
    EncodeLength.Statement (.retCc cc) := rfl
theorem EncodeLength.reti :
    EncodeLength.Statement .reti := rfl
theorem EncodeLength.retn :
    EncodeLength.Statement .retn := rfl
theorem EncodeLength.rst (t : Fin 8) :
    EncodeLength.Statement (.rst t) := rfl
theorem EncodeLength.inAN (n : Byte) :
    EncodeLength.Statement (.inAN n) := rfl
theorem EncodeLength.inRC (r : Reg8) :
    EncodeLength.Statement (.inRC r) := rfl
theorem EncodeLength.ini :
    EncodeLength.Statement .ini := rfl
theorem EncodeLength.inir :
    EncodeLength.Statement .inir := rfl
theorem EncodeLength.ind :
    EncodeLength.Statement .ind := rfl
theorem EncodeLength.indr :
    EncodeLength.Statement .indr := rfl
theorem EncodeLength.outNA (n : Byte) :
    EncodeLength.Statement (.outNA n) := rfl
theorem EncodeLength.outCR (r : Reg8) :
    EncodeLength.Statement (.outCR r) := rfl
theorem EncodeLength.outi :
    EncodeLength.Statement .outi := rfl
theorem EncodeLength.otir :
    EncodeLength.Statement .otir := rfl
theorem EncodeLength.outd :
    EncodeLength.Statement .outd := rfl
theorem EncodeLength.otdr :
    EncodeLength.Statement .otdr := rfl
theorem EncodeLength.daa :
    EncodeLength.Statement .daa := rfl
theorem EncodeLength.cpl :
    EncodeLength.Statement .cpl := rfl
theorem EncodeLength.neg :
    EncodeLength.Statement .neg := rfl
theorem EncodeLength.ccf :
    EncodeLength.Statement .ccf := rfl
theorem EncodeLength.scf :
    EncodeLength.Statement .scf := rfl
theorem EncodeLength.nop :
    EncodeLength.Statement .nop := rfl
theorem EncodeLength.halt :
    EncodeLength.Statement .halt := rfl
theorem EncodeLength.di :
    EncodeLength.Statement .di := rfl
theorem EncodeLength.ei :
    EncodeLength.Statement .ei := rfl
theorem EncodeLength.im0 :
    EncodeLength.Statement .im0 := rfl
theorem EncodeLength.im1 :
    EncodeLength.Statement .im1 := rfl
theorem EncodeLength.im2 :
    EncodeLength.Statement .im2 := rfl
theorem EncodeLength.unimplCb (z : Fin 8) :
    EncodeLength.Statement (.unimplCb z) := rfl
theorem EncodeLength.unimplEd (op : Byte) :
    EncodeLength.Statement (.unimplEd op) := rfl
theorem EncodeLength.unimplDd (op : Byte) :
    EncodeLength.Statement (.unimplDd op) := rfl
theorem EncodeLength.unimplFd (op : Byte) :
    EncodeLength.Statement (.unimplFd op) := rfl
theorem EncodeLength.unimplDdCb (d : Byte) (op : Byte) :
    EncodeLength.Statement (.unimplDdCb d op) := rfl
theorem EncodeLength.unimplFdCb (d : Byte) (op : Byte) :
    EncodeLength.Statement (.unimplFdCb d op) := rfl

end Sys2Proof.Laws
end

