-- ==== Sys2Proof/Laws/Step.lean ====
section
/-! SUPPORT. The step in the halt state and out of it, so that no proof unfolds `step`. -/

namespace Sys2Proof.Machine

theorem step_of_halt {s : State} (h : s.halt = true) : step s = .next s.idle := by
  simp [step, h]

theorem step_of_decode {s : State} {i : Instr} {rest : List Byte} (h : s.halt = false)
    (hd : decode s.fetchWindow = .instr i rest) :
    step s = exec i (s.beginInstr (fetchedLength rest)) := by
  simp [step, h, hd]

/-- Everything a step can do. -/
theorem step_cases (s : State) :
    (s.halt = true ∧ step s = .next s.idle) ∨
      (∃ i rest, s.halt = false ∧ decode s.fetchWindow = .instr i rest ∧
        step s = exec i (s.beginInstr (fetchedLength rest))) ∨
      ∃ e, s.halt = false ∧ decode s.fetchWindow = .rejected e ∧ step s = .fault .undecodable := by
  cases h : s.halt with
  | true => exact .inl ⟨rfl, step_of_halt h⟩
  | false =>
    cases hd : decode s.fetchWindow with
    | instr i rest => exact .inr (.inl ⟨i, rest, rfl, rfl, step_of_decode h hd⟩)
    | rejected e => exact .inr (.inr ⟨e, rfl, rfl, by simp [step, h, hd]⟩)

end Sys2Proof.Machine
end

