-- ==== Sys2Proof/Tests/Slice0.lean ====
section
/-! SUPPORT. Tests: ill-formed terms refused, every constructor decoded from a word written out from the
spec's encoding, one step of each kind of instruction against the vectors of 95_test_vectors.md, and for
every obligation with hypotheses a state and operands that meet them. -/

namespace Sys2Proof.Tests

open Sys2Proof Sys2Proof.Machine Sys2Proof.Claims

/-! ### Well-formedness: each check refuses an encoding that is an instruction, and admits one that is not -/

/-- ED B0 is LDIR (R432); ED 70 is unimplemented (R451). -/
theorem test_wf_unimplEd :
    Instr.wellFormed (.unimplEd 0xB0) = false ∧ Instr.wellFormed (.unimplEd 0x70) = true := by decide

/-- DD 21 is LD IX,nn (R433); DD 44 is unimplemented (R452). -/
theorem test_wf_unimplDd :
    Instr.wellFormed (.unimplDd 0x21) = false ∧ Instr.wellFormed (.unimplDd 0x44) = true := by decide

/-- DD CB is a prefix pair (R434). -/
theorem test_wf_unimplDd_prefix :
    Instr.wellFormed (.unimplDd 0xCB) = false ∧ Instr.wellFormed (.unimplDd 0xDD) = true := by decide

/-- FD E9 is JP (IY) (R433); FD 76 is unimplemented (R452). -/
theorem test_wf_unimplFd :
    Instr.wellFormed (.unimplFd 0xE9) = false ∧ Instr.wellFormed (.unimplFd 0x76) = true := by decide

/-- DD CB d 46 is BIT 0,(IX+d) (R434); DD CB d 40 is unimplemented (R453). -/
theorem test_wf_unimplDdCb :
    Instr.wellFormed (.unimplDdCb 0x05 0x46) = false ∧ Instr.wellFormed (.unimplDdCb 0x05 0x40) = true := by decide

/-- FD CB d 3E is SRL (IY+d) (R434); FD CB d 36 is unimplemented (R453). -/
theorem test_wf_unimplFdCb :
    Instr.wellFormed (.unimplFdCb 0x05 0x3E) = false ∧ Instr.wellFormed (.unimplFdCb 0x05 0x36) = true := by decide

/-! ### Decoding: words written out from the encodings of 30_encoding.md and 41_load8.md to
49_io_and_cpu_control.md -/

/-- Each sequence decodes, whole, to its instruction, which has it as its encoding. -/
def decodes (table : List (List Byte × Instr)) : Bool :=
  table.all fun row => decode row.1 == .instr row.2 [] && encode row.2 == row.1

/-- Decoding of 8-bit loads (R601 to R621), part 1. -/
theorem test_decode_load8_1 : decodes [
    ([0x78], .ldRR .a .b),
    ([0x41], .ldRR .b .c),
    ([0x6F], .ldRR .l .a),
    ([0x26, 0xFF], .ldRN .h 0xFF),
    ([0x7E], .ldRHl .a),
    ([0xDD, 0x46, 0xFF], .ldRIxD .b 0xFF),
    ([0xFD, 0x4E, 0x80], .ldRIyD .c 0x80),
    ([0x77], .ldHlR .a),
    ([0x70], .ldHlR .b),
    ([0xDD, 0x77, 0x05], .ldIxDR 0x05 .a),
    ([0xFD, 0x72, 0x7F], .ldIyDR 0x7F .d),
    ([0x36, 0x28], .ldHlN 0x28),
    ([0xDD, 0x36, 0x80, 0x5A], .ldIxDN 0x80 0x5A),
    ([0xFD, 0x36, 0x10, 0x97], .ldIyDN 0x10 0x97),
    ([0x0A], .ldABc),
    ([0x1A], .ldADe)] = true := by decide

/-- Decoding of 8-bit loads (R601 to R621), part 2. -/
theorem test_decode_load8_2 : decodes [
    ([0x3A, 0x32, 0x88], .ldANn 0x8832),
    ([0x02], .ldBcA),
    ([0x12], .ldDeA),
    ([0x32, 0x41, 0x31], .ldNnA 0x3141),
    ([0xED, 0x57], .ldAI),
    ([0xED, 0x5F], .ldAR),
    ([0xED, 0x47], .ldIA),
    ([0xED, 0x4F], .ldRA)] = true := by decide

/-- Decoding of 16-bit loads, PUSH and POP (R701 to R720), part 1. -/
theorem test_decode_load16_1 : decodes [
    ([0x01, 0xCD, 0xAB], .ldDdNn .bc 0xABCD),
    ([0x31, 0xFE, 0xFF], .ldDdNn .sp 0xFFFE),
    ([0xDD, 0x21, 0xA2, 0x45], .ldIxNn 0x45A2),
    ([0xFD, 0x21, 0x33, 0x77], .ldIyNn 0x7733),
    ([0x2A, 0xFF, 0xFF], .ldHlMem 0xFFFF),
    ([0xED, 0x4B, 0x30, 0x21], .ldDdMem .bc 0x2130),
    ([0xED, 0x6B, 0x30, 0x21], .ldDdMem .hl 0x2130),
    ([0xDD, 0x2A, 0x66, 0x66], .ldIxMem 0x6666),
    ([0xFD, 0x2A, 0x66, 0x66], .ldIyMem 0x6666),
    ([0x22, 0x29, 0xB2], .ldMemHl 0xB229),
    ([0xED, 0x73, 0x00, 0x90], .ldMemDd 0x9000 .sp),
    ([0xED, 0x53, 0x00, 0x10], .ldMemDd 0x1000 .de),
    ([0xDD, 0x22, 0x92, 0x43], .ldMemIx 0x4392),
    ([0xFD, 0x22, 0x38, 0x88], .ldMemIy 0x8838),
    ([0xF9], .ldSpHl),
    ([0xDD, 0xF9], .ldSpIx)] = true := by decide

/-- Decoding of 16-bit loads, PUSH and POP (R701 to R720), part 2. -/
theorem test_decode_load16_2 : decodes [
    ([0xFD, 0xF9], .ldSpIy),
    ([0xF5], .pushQq .af),
    ([0xC5], .pushQq .bc),
    ([0xDD, 0xE5], .pushIx),
    ([0xFD, 0xE5], .pushIy),
    ([0xE1], .popQq .hl),
    ([0xD1], .popQq .de),
    ([0xDD, 0xE1], .popIx),
    ([0xFD, 0xE1], .popIy)] = true := by decide

/-- Decoding of 8-bit arithmetic and logic (R801 to R848), part 1. -/
theorem test_decode_arith8_1 : decodes [
    ([0x80], .addAR .b),
    ([0xC6, 0x01], .addAN 0x01),
    ([0x86], .addAHl),
    ([0xDD, 0x86, 0x05], .addAIxD 0x05),
    ([0xFD, 0x86, 0x05], .addAIyD 0x05),
    ([0x8F], .adcAR .a),
    ([0xCE, 0xFF], .adcAN 0xFF),
    ([0x8E], .adcAHl),
    ([0xDD, 0x8E, 0x05], .adcAIxD 0x05),
    ([0xFD, 0x8E, 0x05], .adcAIyD 0x05),
    ([0x90], .subR .b),
    ([0xD6, 0x01], .subN 0x01),
    ([0x96], .subHl),
    ([0xDD, 0x96, 0x05], .subIxD 0x05),
    ([0xFD, 0x96, 0x05], .subIyD 0x05),
    ([0x9F], .sbcAR .a)] = true := by decide

/-- Decoding of 8-bit arithmetic and logic (R801 to R848), part 2. -/
theorem test_decode_arith8_2 : decodes [
    ([0xDE, 0xFF], .sbcAN 0xFF),
    ([0x9E], .sbcAHl),
    ([0xDD, 0x9E, 0x05], .sbcAIxD 0x05),
    ([0xFD, 0x9E, 0x05], .sbcAIyD 0x05),
    ([0xA0], .andR .b),
    ([0xE6, 0x00], .andN 0x00),
    ([0xA6], .andHl),
    ([0xDD, 0xA6, 0x05], .andIxD 0x05),
    ([0xFD, 0xA6, 0x05], .andIyD 0x05),
    ([0xB4], .orR .h),
    ([0xF6, 0x48], .orN 0x48),
    ([0xB6], .orHl),
    ([0xDD, 0xB6, 0x05], .orIxD 0x05),
    ([0xFD, 0xB6, 0x05], .orIyD 0x05),
    ([0xAF], .xorR .a),
    ([0xEE, 0x5D], .xorN 0x5D)] = true := by decide

/-- Decoding of 8-bit arithmetic and logic (R801 to R848), part 3. -/
theorem test_decode_arith8_3 : decodes [
    ([0xAE], .xorHl),
    ([0xDD, 0xAE, 0x05], .xorIxD 0x05),
    ([0xFD, 0xAE, 0x05], .xorIyD 0x05),
    ([0xBD], .cpR .l),
    ([0xFE, 0x63], .cpN 0x63),
    ([0xBE], .cpHl),
    ([0xDD, 0xBE, 0x05], .cpIxD 0x05),
    ([0xFD, 0xBE, 0x05], .cpIyD 0x05),
    ([0x3C], .incR .a),
    ([0x34], .incHl),
    ([0xDD, 0x34, 0x10], .incIxD 0x10),
    ([0xFD, 0x34, 0x10], .incIyD 0x10),
    ([0x05], .decR .b),
    ([0x35], .decHl),
    ([0xDD, 0x35, 0xFE], .decIxD 0xFE),
    ([0xFD, 0x35, 0xFE], .decIyD 0xFE)] = true := by decide

/-- Decoding of 16-bit arithmetic (R901 to R911), exchanges and block instructions (R1000 to R1020), part 1. -/
theorem test_decode_arith16_exchange_1 : decodes [
    ([0x39], .addHlSs .sp),
    ([0x09], .addHlSs .bc),
    ([0xED, 0x5A], .adcHlSs .de),
    ([0xED, 0x62], .sbcHlSs .hl),
    ([0xED, 0x72], .sbcHlSs .sp),
    ([0xDD, 0x29], .addIxPp .ix),
    ([0xFD, 0x39], .addIyRr .sp),
    ([0xFD, 0x29], .addIyRr .iy),
    ([0x03], .incSs .bc),
    ([0xDD, 0x23], .incIx),
    ([0xFD, 0x23], .incIy),
    ([0x3B], .decSs .sp),
    ([0xDD, 0x2B], .decIx),
    ([0xFD, 0x2B], .decIy),
    ([0xEB], .exDeHl),
    ([0x08], .exAfAf)] = true := by decide

/-- Decoding of 16-bit arithmetic (R901 to R911), exchanges and block instructions (R1000 to R1020), part 2. -/
theorem test_decode_arith16_exchange_2 : decodes [
    ([0xD9], .exx),
    ([0xE3], .exSpHl),
    ([0xDD, 0xE3], .exSpIx),
    ([0xFD, 0xE3], .exSpIy),
    ([0xED, 0xA0], .ldi),
    ([0xED, 0xB0], .ldir),
    ([0xED, 0xA8], .ldd),
    ([0xED, 0xB8], .lddr),
    ([0xED, 0xA1], .cpi),
    ([0xED, 0xB1], .cpir),
    ([0xED, 0xA9], .cpd),
    ([0xED, 0xB9], .cpdr)] = true := by decide

/-- Decoding of rotates and shifts (R1101 to R1134), part 1. -/
theorem test_decode_rotate_1 : decodes [
    ([0x07], .rlca),
    ([0x17], .rla),
    ([0x0F], .rrca),
    ([0x1F], .rra),
    ([0xCB, 0x00], .rlcR .b),
    ([0xCB, 0x06], .rlcHl),
    ([0xDD, 0xCB, 0x02, 0x06], .rlcIxD 0x02),
    ([0xFD, 0xCB, 0x02, 0x06], .rlcIyD 0x02),
    ([0xCB, 0x15], .rlR .l),
    ([0xCB, 0x16], .rlHl),
    ([0xDD, 0xCB, 0x02, 0x16], .rlIxD 0x02),
    ([0xFD, 0xCB, 0x02, 0x16], .rlIyD 0x02),
    ([0xCB, 0x0F], .rrcR .a),
    ([0xCB, 0x0E], .rrcHl),
    ([0xDD, 0xCB, 0x02, 0x0E], .rrcIxD 0x02),
    ([0xFD, 0xCB, 0x02, 0x0E], .rrcIyD 0x02)] = true := by decide

/-- Decoding of rotates and shifts (R1101 to R1134), part 2. -/
theorem test_decode_rotate_2 : decodes [
    ([0xCB, 0x1A], .rrR .d),
    ([0xCB, 0x1E], .rrHl),
    ([0xDD, 0xCB, 0x02, 0x1E], .rrIxD 0x02),
    ([0xFD, 0xCB, 0x02, 0x1E], .rrIyD 0x02),
    ([0xCB, 0x25], .slaR .l),
    ([0xCB, 0x26], .slaHl),
    ([0xDD, 0xCB, 0x02, 0x26], .slaIxD 0x02),
    ([0xFD, 0xCB, 0x02, 0x26], .slaIyD 0x02),
    ([0xCB, 0x2F], .sraR .a),
    ([0xCB, 0x2E], .sraHl),
    ([0xDD, 0xCB, 0x02, 0x2E], .sraIxD 0x02),
    ([0xFD, 0xCB, 0x02, 0x2E], .sraIyD 0x02),
    ([0xCB, 0x3F], .srlR .a),
    ([0xCB, 0x3E], .srlHl),
    ([0xDD, 0xCB, 0x02, 0x3E], .srlIxD 0x02),
    ([0xFD, 0xCB, 0xFF, 0x3E], .srlIyD 0xFF)] = true := by decide

/-- Decoding of rotates and shifts (R1101 to R1134), part 3. -/
theorem test_decode_rotate_3 : decodes [
    ([0xED, 0x6F], .rld),
    ([0xED, 0x67], .rrd)] = true := by decide

/-- Decoding of bit test, set and reset (R1201 to R1212). -/
theorem test_decode_bits : decodes [
    ([0xCB, 0x50], .bitR 2 .b),
    ([0xCB, 0x7F], .bitR 7 .a),
    ([0xCB, 0x5E], .bitHl 3),
    ([0xDD, 0xCB, 0x04, 0x76], .bitIxD 6 0x04),
    ([0xFD, 0xCB, 0x04, 0x46], .bitIyD 0 0x04),
    ([0xCB, 0xC0], .setR 0 .b),
    ([0xCB, 0xE6], .setHl 4),
    ([0xDD, 0xCB, 0x10, 0xFE], .setIxD 7 0x10),
    ([0xFD, 0xCB, 0x03, 0xC6], .setIyD 0 0x03),
    ([0xCB, 0xB2], .resR 6 .d),
    ([0xCB, 0xBE], .resHl 7),
    ([0xDD, 0xCB, 0x03, 0x9E], .resIxD 3 0x03),
    ([0xFD, 0xCB, 0xF0, 0x86], .resIyD 0 0xF0)] = true := by decide

/-- Decoding of jumps, calls and returns (R1301 to R1329), part 1. -/
theorem test_decode_jump_1 : decodes [
    ([0xC3, 0x00, 0x80], .jpNn 0x8000),
    ([0xCA, 0x34, 0x12], .jpCcNn .z 0x1234),
    ([0xFA, 0x34, 0x12], .jpCcNn .m 0x1234),
    ([0x18, 0xFE], .jrE 0xFE),
    ([0x38, 0x10], .jrC 0x10),
    ([0x30, 0x10], .jrNc 0x10),
    ([0x28, 0x10], .jrZ 0x10),
    ([0x20, 0x10], .jrNz 0x10),
    ([0xE9], .jpHl),
    ([0xDD, 0xE9], .jpIx),
    ([0xFD, 0xE9], .jpIy),
    ([0x10, 0xFE], .djnz 0xFE),
    ([0xCD, 0x00, 0x50], .callNn 0x5000),
    ([0xDC, 0x00, 0x50], .callCcNn .c 0x5000),
    ([0xC9], .ret),
    ([0xE8], .retCc .pe)] = true := by decide

/-- Decoding of jumps, calls and returns (R1301 to R1329), part 2. -/
theorem test_decode_jump_2 : decodes [
    ([0xED, 0x4D], .reti),
    ([0xED, 0x45], .retn),
    ([0xFF], .rst 7),
    ([0xC7], .rst 0)] = true := by decide

/-- Decoding of input and output (R1401 to R1412), accumulator and control (R1421 to R1435), part 1. -/
theorem test_decode_io_control_1 : decodes [
    ([0xDB, 0x01], .inAN 0x01),
    ([0xED, 0x50], .inRC .d),
    ([0xED, 0x78], .inRC .a),
    ([0xED, 0xA2], .ini),
    ([0xED, 0xB2], .inir),
    ([0xED, 0xAA], .ind),
    ([0xED, 0xBA], .indr),
    ([0xD3, 0x01], .outNA 0x01),
    ([0xED, 0x59], .outCR .e),
    ([0xED, 0xA3], .outi),
    ([0xED, 0xB3], .otir),
    ([0xED, 0xAB], .outd),
    ([0xED, 0xBB], .otdr),
    ([0x27], .daa),
    ([0x2F], .cpl),
    ([0xED, 0x44], .neg)] = true := by decide

/-- Decoding of input and output (R1401 to R1412), accumulator and control (R1421 to R1435), part 2. -/
theorem test_decode_io_control_2 : decodes [
    ([0x3F], .ccf),
    ([0x37], .scf),
    ([0x00], .nop),
    ([0x76], .halt),
    ([0xF3], .di),
    ([0xFB], .ei),
    ([0xED, 0x46], .im0),
    ([0xED, 0x56], .im1),
    ([0xED, 0x5E], .im2)] = true := by decide

/-- Decoding of unimplemented encodings (R451 to R453). -/
theorem test_decode_unimplemented : decodes [
    ([0xCB, 0x37], .unimplCb 7),
    ([0xCB, 0x30], .unimplCb 0),
    ([0xED, 0x70], .unimplEd 0x70),
    ([0xED, 0xFF], .unimplEd 0xFF),
    ([0xDD, 0x44], .unimplDd 0x44),
    ([0xDD, 0xDD], .unimplDd 0xDD),
    ([0xFD, 0x76], .unimplFd 0x76),
    ([0xFD, 0xED], .unimplFd 0xED),
    ([0xDD, 0xCB, 0x05, 0x40], .unimplDdCb 0x05 0x40),
    ([0xFD, 0xCB, 0x05, 0x36], .unimplFdCb 0x05 0x36)] = true := by decide

/-- Fewer bytes than the instruction has are rejected by name (R400, R402). -/
theorem test_decode_truncated : decode [] = .rejected .truncated ∧ decode [0xDD] = .rejected .truncated ∧
    decode [0x3A, 0x32] = .rejected .truncated ∧ decode [0xDD, 0xCB, 0x02] = .rejected .truncated := by decide

/-- The table's numbering: the first byte is the most significant of the row's bits (log entry 10). -/
theorem test_decodeTableWord : decodeTableWord 8 0x76 = some .halt ∧
    decodeTableWord 16 0xEDB0 = some .ldir ∧ decodeTableWord 32 0xDDCB02C6 = some (.setIxD 0 0x02) := by decide

/-- The word the host stores is the one that the next step runs. -/
theorem test_withFetchWord : (State.reset.withFetchWord 8 0x76).fetchWindow = [0x76, 0, 0, 0] := by decide

/-! ### One step, against 95_test_vectors.md -/

/-- The reset state with `bytes` at `pc` and PC there. -/
def placed (pc : Word) (bytes : List Byte) : State := (State.reset.load bytes pc).setPC pc

/-- What a step from `s` leaves, as `f` shows it. -/
def after {α : Type} (s : State) (f : State → α) : Option α :=
  match step s with
  | .next t => some (f t)
  | _ => none

/-- T1. -/
theorem test_ld_r_r :
    after (((placed 0x0000 [0x78]).setAF 0x00FF).setReg .b 0x5A)
      (fun t => t.af) = some 0x5AFF := by decide

/-- T3. -/
theorem test_ld_r_n :
    after ((placed 0x0000 [0x26, 0xFF]).setReg .h 0x00)
      (fun t => t.reg .h) = some 0xFF := by decide

/-- T4. -/
theorem test_ld_r_hl_top :
    after (((placed 0x0000 [0x7E]).setHL 0xFFFF).writeMem 0xFFFF 0xA7)
      (fun t => t.af) = some 0xA700 := by decide

/-- T5. -/
theorem test_ld_r_ixd_wraps :
    after (((placed 0x0000 [0xDD, 0x46, 0xFF]).setIX 0x0000).writeMem 0xFFFF 0x39)
      (fun t => t.reg .b) = some 0x39 := by decide

/-- T6. -/
theorem test_ld_iyd_r_wraps :
    after (((placed 0x0000 [0xFD, 0x77, 0x7F]).setAF 0x1100).setIY 0xFFF0)
      (fun t => t.readMem 0x006F) = some 0x11 := by decide

/-- T7. -/
theorem test_ld_ixd_n :
    after ((placed 0x0000 [0xDD, 0x36, 0x80, 0x5A]).setIX 0x2080)
      (fun t => t.readMem 0x2000) = some 0x5A := by decide

/-- T8. -/
theorem test_ld_hl_n :
    after ((placed 0x0000 [0x36, 0x28]).setHL 0x4444)
      (fun t => t.readMem 0x4444) = some 0x28 := by decide

/-- T9. -/
theorem test_ld_a_bc :
    after ((((placed 0x0000 [0x0A]).setAF 0x0000).setBC 0x4747).writeMem 0x4747 0x12)
      (fun t => t.af) = some 0x1200 := by decide

/-- T10. -/
theorem test_ld_bc_a :
    after (((placed 0x0000 [0x02]).setAF 0x7A00).setBC 0x1212)
      (fun t => t.readMem 0x1212) = some 0x7A := by decide

/-- T11. -/
theorem test_ld_a_nn :
    after (((placed 0x0000 [0x3A, 0x32, 0x88]).setAF 0x0000).writeMem 0x8832 0x04)
      (fun t => t.af) = some 0x0400 := by decide

/-- T12. -/
theorem test_ld_a_i :
    after ((((placed 0x0000 [0xED, 0x57]).setAF 0x0001).setIff false true).setI 0x80)
      (fun t => t.af) = some 0x8085 := by decide

/-- T14. -/
theorem test_ld_a_r :
    after ((((placed 0x0000 [0xED, 0x5F]).setAF 0x0000).setIff false true).setR 0x7F)
      (fun t => t.af) = some 0x7F04 := by decide

/-- T15. -/
theorem test_ld_r_a :
    after (((placed 0x0000 [0xED, 0x4F]).setAF 0xC300).setR 0x00)
      (fun t => t.r) = some 0xC3 := by decide

/-- T18. -/
theorem test_ld_hl_mem_wraps :
    after ((((placed 0x0000 [0x2A, 0xFF, 0xFF]).setHL 0x0000).writeMem 0x0000 0x2A).writeMem 0xFFFF 0x37)
      (fun t => (t.reg .h, t.reg .l)) = some (0x2A, 0x37) := by decide

/-- T19. -/
theorem test_ld_dd_mem :
    after ((((placed 0x0000 [0xED, 0x4B, 0x30, 0x21]).setBC 0x0000).writeMem 0x2130 0x65).writeMem 0x2131 0x78)
      (fun t => (t.reg .b, t.reg .c)) = some (0x78, 0x65) := by decide

/-- T20. -/
theorem test_ld_mem_hl :
    after ((placed 0x0000 [0x22, 0x29, 0xB2]).setHL 0x483A)
      (fun t => (t.readMem 0xB229, t.readMem 0xB22A)) = some (0x3A, 0x48) := by decide

/-- T21. -/
theorem test_ld_mem_sp :
    after ((placed 0x0000 [0xED, 0x73, 0x00, 0x90]).setSP 0x1234)
      (fun t => (t.readMem 0x9000, t.readMem 0x9001)) = some (0x34, 0x12) := by decide

/-- T23. -/
theorem test_push_af :
    after (((placed 0x0000 [0xF5]).setAF 0x2233).setSP 0x1007)
      (fun t => (t.sp, t.readMem 0x1005, t.readMem 0x1006)) = some (0x1005, 0x33, 0x22) := by decide

/-- T25. -/
theorem test_pop_af_wraps :
    after (((((placed 0x0000 [0xF1]).setAF 0x0000).setSP 0xFFFF).writeMem 0x0000 0xF1).writeMem 0xFFFF 0xD7)
      (fun t => (t.af, t.sp)) = some (0xF1D7, 0x0001) := by decide

/-- T29. -/
theorem test_add_overflow :
    after (((placed 0x0000 [0x80]).setAF 0x7F00).setReg .b 0x01)
      (fun t => t.af) = some 0x8094 := by decide

/-- T30. -/
theorem test_add_carry_zero :
    after (((placed 0x0000 [0x80]).setAF 0x8000).setReg .b 0x80)
      (fun t => t.af) = some 0x0045 := by decide

/-- T32. -/
theorem test_adc_half_carry :
    after ((placed 0x0000 [0x8F]).setAF 0x0F01)
      (fun t => t.af) = some 0x1F18 := by decide

/-- T36. -/
theorem test_sub_borrow :
    after ((placed 0x0000 [0xD6, 0x01]).setAF 0x0000)
      (fun t => t.af) = some 0xFFBB := by decide

/-- T39. -/
theorem test_sbc_a_a :
    after ((placed 0x0000 [0x9F]).setAF 0x5C01)
      (fun t => t.af) = some 0xFFBB := by decide

/-- T41. -/
theorem test_sbc_hl :
    after ((((placed 0x0000 [0x9E]).setAF 0x1601).setHL 0x3433).writeMem 0x3433 0x05)
      (fun t => t.af) = some 0x1002 := by decide

/-- T42. -/
theorem test_and_r :
    after (((placed 0x0000 [0xA0]).setAF 0xC301).setReg .b 0x7B)
      (fun t => t.af) = some 0x4310 := by decide

/-- T44. -/
theorem test_or_r :
    after (((placed 0x0000 [0xB4]).setAF 0x12FF).setReg .h 0x48)
      (fun t => t.af) = some 0x5A0C := by decide

/-- T45. -/
theorem test_xor_a : after ((placed 0x0000 [0xAF]).setAF 0x96FF) (fun t => t.af) = some 0x0044 := by decide

/-- T47. -/
theorem test_cp_hl_f53 :
    after ((((placed 0x0000 [0xBE]).setAF 0x6300).setHL 0x6000).writeMem 0x6000 0x20)
      (fun t => t.af) = some 0x6302 := by decide

/-- T49. -/
theorem test_cp_n :
    after ((placed 0x0000 [0xFE, 0x80]).setAF 0x0000)
      (fun t => t.af) = some 0x0087 := by decide

/-- T50. -/
theorem test_inc_keeps_c :
    after ((placed 0x0000 [0x3C]).setAF 0x7F01)
      (fun t => t.af) = some 0x8095 := by decide

/-- T52. -/
theorem test_inc_mem :
    after ((((placed 0x0000 [0x34]).setAF 0x0000).setHL 0x3434).writeMem 0x3434 0x82)
      (fun t => (t.af, t.readMem 0x3434)) = some (0x0080, 0x83) := by decide

/-- T54. -/
theorem test_dec_r :
    after (((placed 0x0000 [0x05]).setAF 0x0001).setReg .b 0x00)
      (fun t => (t.af, t.reg .b)) = some (0x00BB, 0xFF) := by decide

/-- T56. -/
theorem test_dec_ixd :
    after ((((placed 0x0000 [0xDD, 0x35, 0xFE]).setAF 0x0000).setIX 0x2002).writeMem 0x2000 0x10)
      (fun t => (t.af, t.readMem 0x2000)) = some (0x001A, 0x0F) := by decide

/-- T58. -/
theorem test_add_hl :
    after ((((placed 0x0000 [0x09]).setAF 0x00FF).setHL 0x0FFF).setBC 0x0001)
      (fun t => (t.af, t.reg .h, t.reg .l)) = some (0x00FC, 0x10, 0x00) := by decide

/-- T61. -/
theorem test_adc_hl_overflow :
    after ((((placed 0x0000 [0xED, 0x4A]).setAF 0x0001).setHL 0x7FFF).setBC 0x0000)
      (fun t => (t.af, t.reg .h, t.reg .l)) = some (0x0094, 0x80, 0x00) := by decide

/-- T63. -/
theorem test_adc_hl_z16 :
    after (((placed 0x0000 [0xED, 0x6A]).setAF 0x0000).setHL 0x0080)
      (fun t => (t.reg .h, t.reg .l)) = some (0x01, 0x00) := by decide

/-- T65. -/
theorem test_sbc_hl_overflow :
    after ((((placed 0x0000 [0xED, 0x52]).setAF 0x0000).setHL 0x8000).setDE 0x0001)
      (fun t => (t.af, t.reg .h, t.reg .l)) = some (0x0016, 0x7F, 0xFF) := by decide

/-- T66. -/
theorem test_sbc_hl_hl :
    after (((placed 0x0000 [0xED, 0x62]).setAF 0x0001).setHL 0x1234)
      (fun t => (t.af, t.reg .h, t.reg .l)) = some (0x0093, 0xFF, 0xFF) := by decide

/-- T69. -/
theorem test_add_ix_ix :
    after (((placed 0x0000 [0xDD, 0x29]).setAF 0x0000).setIX 0xC000)
      (fun t => (t.af, t.ix)) = some (0x0001, 0x8000) := by decide

/-- T71. -/
theorem test_inc_bc :
    after (((placed 0x0000 [0x03]).setAF 0x00A5).setBC 0xFFFF)
      (fun t => (t.reg .b, t.reg .c)) = some (0x00, 0x00) := by decide

/-- T72. -/
theorem test_dec_sp :
    after (((placed 0x0000 [0x3B]).setAF 0x005A).setSP 0x0000)
      (fun t => t.sp) = some 0xFFFF := by decide

/-- T75. -/
theorem test_ex_de_hl :
    after (((placed 0x0000 [0xEB]).setDE 0x2822).setHL 0x499A)
      (fun t => (t.reg .d, t.reg .h, t.reg .l)) = some (0x49, 0x28, 0x22) := by decide

/-- T76. -/
theorem test_ex_af :
    after (((placed 0x0000 [0x08]).setAF 0x9900).presetPair .af true 0x5944)
      (fun t => (t.af, t.shadow.af)) = some (0x5944, 0x9900) := by decide

/-- T77. -/
theorem test_ex_sp_hl :
    after (((((placed 0x0000 [0xE3]).setHL 0x7012).setSP 0x8856).writeMem 0x8856 0x11).writeMem 0x8857 0x22)
      (fun t => (t.reg .h, t.readMem 0x8856, t.readMem 0x8857)) = some (0x22, 0x12, 0x70) := by decide

/-- T78. -/
theorem test_ex_sp_ix_wraps :
    after (((((placed 0x0000 [0xDD, 0xE3]).setIX 0x3988).setSP 0xFFFF).writeMem 0x0000 0xDD).writeMem 0xFFFF 0x90)
      (fun t => (t.ix, t.readMem 0x0000, t.readMem 0xFFFF)) = some (0xDD90, 0x39, 0x88) := by decide

/-- T79. -/
theorem test_ldi :
    after (((((((placed 0x0100 [0xED, 0xA0]).setAF 0x00FF).setHL 0x1111).setDE 0x2222).setBC 0x0007).writeMem 0x1111 0x88).writeMem 0x2222 0x66)
      (fun t => (t.af, t.reg .l, t.readMem 0x2222)) = some (0x00ED, 0x12, 0x88) := by decide

/-- T81. -/
theorem test_ldd_wraps :
    after (((((placed 0x0100 [0xED, 0xA8]).setAF 0x0000).setHL 0x0000).setDE 0x0000).setBC 0x0000)
      (fun t => (t.af, t.reg .h, t.reg .l)) = some (0x0004, 0xFF, 0xFF) := by decide

/-- T83. -/
theorem test_ldir_repeats :
    after ((((((placed 0x0100 [0xED, 0xB0]).setAF 0x0000).setHL 0x1111).setDE 0x2222).setBC 0x0003).writeMem 0x1111 0x88)
      (fun t => (t.af, t.reg .l, t.readMem 0x2222)) = some (0x0004, 0x12, 0x88) := by decide

/-- T87. -/
theorem test_cpi :
    after (((((placed 0x0100 [0xED, 0xA1]).setAF 0x1000).setHL 0x1111).setBC 0x0002).writeMem 0x1111 0x01)
      (fun t => (t.af, t.reg .c, t.reg .l)) = some (0x1016, 0x01, 0x12) := by decide

/-- T88. -/
theorem test_cpd :
    after (((((placed 0x0100 [0xED, 0xA9]).setAF 0x0000).setHL 0x0000).setBC 0x0000).writeMem 0x0000 0x80)
      (fun t => (t.af, t.reg .h, t.reg .l)) = some (0x0086, 0xFF, 0xFF) := by decide

/-- T92. -/
theorem test_rlca : after ((placed 0x0000 [0x07]).setAF 0x88FF) (fun t => t.af) = some 0x11ED := by decide

/-- T93. -/
theorem test_rla : after ((placed 0x0000 [0x17]).setAF 0x7601) (fun t => t.af) = some 0xED00 := by decide

/-- T99. -/
theorem test_rl_hl :
    after ((((placed 0x0000 [0xCB, 0x16]).setAF 0x0000).setHL 0x2828).writeMem 0x2828 0x8F)
      (fun t => (t.af, t.readMem 0x2828)) = some (0x000D, 0x1E) := by decide

/-- T101. -/
theorem test_rr_r :
    after (((placed 0x0000 [0xCB, 0x1A]).setAF 0x0000).setReg .d 0x01)
      (fun t => (t.af, t.reg .d)) = some (0x0045, 0x00) := by decide

/-- T103. -/
theorem test_sra_r :
    after ((placed 0x0000 [0xCB, 0x2F]).setAF 0x8100)
      (fun t => t.af) = some 0xC085 := by decide

/-- T104. -/
theorem test_srl_r :
    after ((placed 0x0000 [0xCB, 0x3F]).setAF 0x8100)
      (fun t => t.af) = some 0x4001 := by decide

/-- T107. -/
theorem test_srl_iyd :
    after ((((placed 0x0000 [0xFD, 0xCB, 0xFF, 0x3E]).setAF 0x0000).setIY 0x1000).writeMem 0x0FFF 0x8F)
      (fun t => (t.af, t.readMem 0x0FFF)) = some (0x0005, 0x47) := by decide

/-- T108. -/
theorem test_rld :
    after ((((placed 0x0000 [0xED, 0x6F]).setAF 0x7A01).setHL 0x5000).writeMem 0x5000 0x31)
      (fun t => (t.af, t.readMem 0x5000)) = some (0x7321, 0x1A) := by decide

/-- T109. -/
theorem test_rrd :
    after ((((placed 0x0000 [0xED, 0x67]).setAF 0x8400).setHL 0x5000).writeMem 0x5000 0x20)
      (fun t => (t.af, t.readMem 0x5000)) = some (0x8080, 0x42) := by decide

/-- T114. -/
theorem test_set_r :
    after (((placed 0x0000 [0xCB, 0xC0]).setAF 0x00A5).setReg .b 0x00)
      (fun t => t.reg .b) = some 0x01 := by decide

/-- T116. -/
theorem test_set_ixd :
    after (((placed 0x0000 [0xDD, 0xCB, 0x10, 0xFE]).setIX 0x4000).writeMem 0x4010 0x00)
      (fun t => t.readMem 0x4010) = some 0x80 := by decide

/-- T118. -/
theorem test_jp_nn : after (placed 0x0000 [0xC3, 0x00, 0x80]) (fun t => t.pc) = some 0x8000 := by decide

/-- T119. -/
theorem test_jp_z_taken :
    after ((placed 0x0000 [0xCA, 0x34, 0x12]).setAF 0x0040)
      (fun t => t.pc) = some 0x1234 := by decide

/-- T121. -/
theorem test_jp_po_not :
    after ((placed 0x0000 [0xE2, 0x34, 0x12]).setAF 0x0004)
      (fun t => t.pc) = some 0x0003 := by decide

/-- T123. -/
theorem test_jr_self : after (placed 0x0200 [0x18, 0xFE]) (fun t => t.pc) = some 0x0200 := by decide

/-- T125. -/
theorem test_jr_wraps : after (placed 0x0040 [0x18, 0x80]) (fun t => t.pc) = some 0xFFC2 := by decide

/-- T127. -/
theorem test_jr_nz_taken :
    after ((placed 0x0200 [0x20, 0x10]).setAF 0x0000)
      (fun t => t.pc) = some 0x0212 := by decide

/-- T130. -/
theorem test_djnz_last :
    after (((placed 0x0300 [0x10, 0xFE]).setAF 0x00FF).setReg .b 0x01)
      (fun t => (t.reg .b, t.pc)) = some (0x00, 0x0302) := by decide

/-- T131. -/
theorem test_djnz_wraps :
    after ((placed 0x0300 [0x10, 0xFE]).setReg .b 0x00)
      (fun t => (t.reg .b, t.pc)) = some (0xFF, 0x0300) := by decide

/-- T132. -/
theorem test_call_wraps :
    after ((placed 0x1234 [0xCD, 0x00, 0x50]).setSP 0x0000)
      (fun t => (t.sp, t.readMem 0xFFFE, t.readMem 0xFFFF)) = some (0xFFFE, 0x37, 0x12) := by decide

/-- T134. -/
theorem test_ret :
    after ((((placed 0x5000 [0xC9]).setSP 0xFFFE).writeMem 0xFFFE 0x37).writeMem 0xFFFF 0x12)
      (fun t => (t.sp, t.pc)) = some (0x0000, 0x1237) := by decide

/-- T136. -/
theorem test_ret_m_taken :
    after (((((placed 0x5000 [0xF8]).setAF 0x0080).setSP 0xFFFE).writeMem 0xFFFE 0x37).writeMem 0xFFFF 0x12)
      (fun t => (t.sp, t.pc)) = some (0x0000, 0x1237) := by decide

/-- T137. -/
theorem test_reti :
    after (((((placed 0x5000 [0xED, 0x4D]).setIff false true).setSP 0x7000).writeMem 0x7000 0x00).writeMem 0x7001 0x60)
      (fun t => (t.sp, t.pc)) = some (0x7002, 0x6000) := by decide

/-- T138. -/
theorem test_retn :
    after (((((placed 0x5000 [0xED, 0x45]).setIff false true).setSP 0x7000).writeMem 0x7000 0x00).writeMem 0x7001 0x60)
      (fun t => (t.sp, t.iff1, t.pc)) = some (0x7002, true, 0x6000) := by decide

/-- T139. -/
theorem test_rst :
    after ((placed 0x1234 [0xFF]).setSP 0x8000)
      (fun t => (t.sp, t.readMem 0x7FFE, t.readMem 0x7FFF)) = some (0x7FFE, 0x35, 0x12) := by decide

/-- T141. -/
theorem test_in_a_n :
    after (((placed 0x0000 [0xDB, 0x01]).setAF 0x23FF).writePort 0x2301 0x7B)
      (fun t => t.af) = some 0x7BFF := by decide

/-- T142. -/
theorem test_in_r_c :
    after (((((placed 0x0000 [0xED, 0x50]).setAF 0x0001).setBC 0x1007).setReg .d 0xFF).writePort 0x1007 0x00)
      (fun t => (t.af, t.reg .d)) = some (0x0045, 0x00) := by decide

/-- T144. -/
theorem test_out_n_a :
    after ((placed 0x0000 [0xD3, 0x01]).setAF 0x2300)
      (fun t => t.readPort 0x2301) = some 0x23 := by decide

/-- T145. -/
theorem test_out_c_r :
    after (((placed 0x0000 [0xED, 0x59]).setBC 0x1007).setReg .e 0x5A)
      (fun t => t.readPort 0x1007) = some 0x5A := by decide

/-- T146. -/
theorem test_ini_port :
    after (((((placed 0x0100 [0xED, 0xA2]).setAF 0x0001).setBC 0x1007).setHL 0x1000).writePort 0x1007 0x7B)
      (fun t => (t.reg .b, t.reg .l, t.readMem 0x1000)) = some (0x0F, 0x01, 0x7B) := by decide

/-- T148. -/
theorem test_ind_wraps :
    after (((((placed 0x0100 [0xED, 0xAA]).setAF 0x0000).setBC 0x0007).setHL 0x0000).writePort 0x0007 0x11)
      (fun t => (t.reg .b, t.reg .l, t.readMem 0x0000)) = some (0xFF, 0xFF, 0x11) := by decide

/-- T150. -/
theorem test_outi_port :
    after (((((placed 0x0100 [0xED, 0xA3]).setAF 0x0000).setBC 0x1007).setHL 0x1000).writeMem 0x1000 0x59)
      (fun t => (t.reg .b, t.reg .l, t.readPort 0x0F07)) = some (0x0F, 0x01, 0x59) := by decide

/-- T153. -/
theorem test_otdr_repeats :
    after (((((placed 0x0100 [0xED, 0xBB]).setAF 0x0000).setBC 0x0307).setHL 0x1000).writeMem 0x1000 0x51)
      (fun t => (t.reg .b, t.reg .l, t.readPort 0x0207)) = some (0x02, 0xFF, 0x51) := by decide

/-- T154. -/
theorem test_daa_both :
    after ((placed 0x0000 [0x27]).setAF 0x9A00)
      (fun t => t.af) = some 0x0055 := by decide

/-- T159. -/
theorem test_cpl : after ((placed 0x0000 [0x2F]).setAF 0xB400) (fun t => t.af) = some 0x4B12 := by decide

/-- T160. -/
theorem test_neg :
    after ((placed 0x0000 [0xED, 0x44]).setAF 0x9800)
      (fun t => t.af) = some 0x683B := by decide

/-- T163. -/
theorem test_ccf : after ((placed 0x0000 [0x3F]).setAF 0x0001) (fun t => t.af) = some 0x0010 := by decide

/-- T165. -/
theorem test_scf : after ((placed 0x0000 [0x37]).setAF 0x00FE) (fun t => t.af) = some 0x00ED := by decide

/-- T168. -/
theorem test_di :
    after ((placed 0x0000 [0xF3]).setIff true true)
      (fun t => (t.iff1, t.iff2)) = some (false, false) := by decide

/-- T169. -/
theorem test_ei :
    after ((placed 0x0000 [0xFB]).setIff false false)
      (fun t => (t.iff1, t.iff2)) = some (true, true) := by decide

/-- T170. -/
theorem test_im2 : after ((placed 0x0000 [0xED, 0x5E]).setIM .im0) (fun t => t.im) = some .im2 := by decide

/-- T181. -/
theorem test_unimpl_ddcb :
    after (((((placed 0x0000 [0xDD, 0xCB, 0x05, 0x00]).setAF 0x0000).setIX 0x2000).setReg .b 0x00).writeMem 0x2005 0x80)
      (fun t => (t.pc, t.diag, t.unimplSeen)) = some (0x0004, some ⟨0x0000, [0xDD, 0xCB, 0x05, 0x00]⟩, true) := by decide

/-- T184. -/
theorem test_pc_wraps : after (placed 0xFFFF [0x00]) (fun t => t.pc) = some 0x0000 := by decide

/-- T185. -/
theorem test_fetch_wraps :
    after (((placed 0xFFFF [0x3E]).setAF 0x0000).writeMem 0x0000 0x77)
      (fun t => (t.af, t.pc)) = some (0x7700, 0x0001) := by decide

/-- T187. -/
theorem test_fetch_wraps_ddcb :
    after ((((placed 0xFFFE [0xDD, 0xCB]).setIX 0x3000).writeMem 0x0000 0x01).writeMem 0x0001 0xC6)
      (fun t => (t.readMem 0x3001, t.pc)) = some (0x01, 0x0002) := by decide

/-- T112, BIT 0,A of a clear bit: Z, H, N and C, which the manual fixes; S and PV stay free. -/
theorem test_bit_clear :
    let s := (placed 0x0000 [0xCB, 0x47]).setAF 0xFEFF
    let fl := (s.bitTest 0 (.reg .a)).flags
    exec (.bitR 0 .a) s = .next ((s.bitTest 0 (.reg .a)).tick 8) ∧
      fl.z = true ∧ fl.h = true ∧ fl.n = false ∧ fl.c = true := by
  intro s fl
  refine ⟨rfl, ?_⟩
  simp only [fl, (State.bitTest_spec s 0 (.reg .a)).1]
  decide

/-- T113, BIT 3,(HL) of a set bit. -/
theorem test_bit_set :
    let s := (((placed 0x0000 [0xCB, 0x5E]).setAF 0x0000).setHL 0x4000).writeMem 0x4000 0x08
    let fl := (s.bitTest 3 .hl).flags
    fl.z = false ∧ fl.h = true ∧ fl.n = false ∧ fl.c = false := by
  intro s fl
  simp only [fl, (State.bitTest_spec s 3 .hl).1]
  decide

/-- T147 and T151, INI and OUTD with B = 1: Z and N. -/
theorem test_block_io_flags :
    let s := (placed 0x0100 [0xED, 0xA2]).setBC 0x0107
    (s.blockIn .up).flags.z = true ∧ (s.blockIn .up).flags.n = true ∧
      (s.blockOut .down).flags.z = true ∧ (s.blockOut .down).flags.n = true := by
  intro s
  simp only [(State.blockIn_spec s .up).2.2.2.1, (State.blockOut_spec s .down).2.2.2.1]
  decide

/-- T167: HALT leaves PC past its byte and sets HALT; the step after it changes nothing. -/
theorem test_halt : after (placed 0x0010 [0x76]) (fun t => (t.pc, t.halt)) = some (0x0011, true) ∧
    after { placed 0x0011 [] with halt := true } (fun t => (t.pc, t.halt)) = some (0x0011, true) := by decide

/-- R1002: EXX swaps BC, DE and HL with the shadow set, not AF. -/
theorem test_exx :
    after (((placed 0x0000 [0xD9]).setBC 0x1234).presetPair .bc true 0x5678)
      (fun t => (t.bc, t.shadow.bc)) = some (0x5678, 0x1234) := by decide

/-- V7: B is the high byte of BC. -/
theorem test_pair_views :
    (((State.reset.presetReg .b false 0x12).presetReg .c false 0x34).getPair .bc false = 0x1234) ∧
      (State.reset.presetPair .bc false 0xABCD).getReg .b false = 0xAB ∧
      (State.reset.presetIndexHalf .ixh 0x12).ix = 0x1200 := by decide

/-! ### Witnesses: for every obligation with hypotheses, a state and operands that meet them -/

/-- DecodeOfEncode: well-formed instructions of one to four bytes, operands at the ends of their ranges. -/
theorem test_witness_DecodeOfEncode : Instr.wellFormed .nop = true ∧ Instr.wellFormed (.jrE 0x80) = true ∧
    Instr.wellFormed (.bitR 7 .a) = true ∧ Instr.wellFormed (.ldIxDN 0x80 0xFF) = true ∧
    Instr.wellFormed (.jpNn 0xFFFF) = true ∧ Instr.wellFormed (.unimplCb 0) = true ∧
    Instr.wellFormed (.unimplEd 0xFF) = true ∧ Instr.wellFormed (.unimplDd 0x00) = true ∧
    Instr.wellFormed (.unimplFd 0xFF) = true ∧ Instr.wellFormed (.unimplDdCb 0xFF 0x00) = true ∧
    Instr.wellFormed (.unimplFdCb 0x00 0xFF) = true := by decide

/-- EncodeOfDecode: bytes that decode with and without a rest. -/
theorem test_witness_EncodeOfDecode :
    decode [0xDD, 0x36, 0x80, 0xFF, 0x76] = .instr (.ldIxDN 0x80 0xFF) [0x76] ∧
      decode [0xFD, 0xFF] = .instr (.unimplFd 0xFF) [] := by decide

/-- UnimplementedClasses: opcode bytes on both sides of each edge of the ranges of R451 to R453. -/
theorem test_witness_UnimplementedClasses :
    ([0x00, 0x3F, 0x80, 0x9F, 0xA4, 0xA7, 0xAC, 0xAF, 0xB4, 0xB7, 0xBC, 0xBF, 0xC0, 0xFF].all
        edUnimplemented) = true ∧
      ([0x40, 0x7B, 0xA0, 0xA3, 0xA8, 0xAB, 0xB0, 0xB3, 0xB8, 0xBB].any edUnimplemented) = false ∧
      ([0x09, 0xF9, 0x46, 0x70, 0x77, 0xBE, 0x34].all xyImplemented) = true ∧
      ([0x00, 0x3F, 0x76, 0x40, 0xBF, 0xC0, 0xFF, 0xDD, 0xED].any xyImplemented) = false ∧
      ([0x00, 0x36, 0x40, 0x45, 0x47, 0xFF].all xyCbUnimplemented) = true ∧
      ([0x06, 0x3E, 0x46, 0xFE].any xyCbUnimplemented) = false ∧
      decode [0xCB, 0x2F] = .instr (.sraR .a) [] ∧ decode [0xCB, 0x30] = .instr (.unimplCb 0) [] ∧
      decode [0xCB, 0x38] = .instr (.srlR .b) [] := by decide

/-- StepRunsDecodedInstruction and SequentialInstructionsAdvancePC: out of the halt state, an instruction
whose bytes wrap past 0xFFFF. -/
theorem test_witness_StepRunsDecodedInstruction :
    let s := placed 0xFFFE [0xDD, 0xCB, 0x01, 0xC6]
    s.halt = false ∧ s.fetchWindow = [0xDD, 0xCB, 0x01, 0xC6] ∧
      decode s.fetchWindow = .instr (.setIxD 0 0x01) [] ∧ transfersControl (.setIxD 0 0x01) = false := by
  decide

/-- SequentialInstructionsAdvancePC: HALT, and NOP at the last address. -/
theorem test_witness_SequentialInstructionsAdvancePC :
    let s := placed 0xFFFF [0x00]
    s.halt = false ∧ decode s.fetchWindow = .instr .nop [0, 0, 0] ∧ transfersControl .nop = false ∧
      transfersControl .halt = false ∧ s.pc + BitVec.ofNat 16 (encode .nop).length = 0x0000 := by decide

/-- HaltedStepChangesNothing, and the second clause of HaltSetOnlyByHalt: a halted state, its next state. -/
theorem test_witness_HaltedStepChangesNothing :
    let s : State := { State.reset with halt := true }
    s.halt = true ∧ step s = .next s := ⟨rfl, rfl⟩

/-- HaltSetOnlyByHalt: HALT sets it; another instruction leaves it. -/
theorem test_witness_HaltSetOnlyByHalt :
    (exec .halt State.reset = .next (State.reset.setHalt.tick 4)) ∧ State.reset.setHalt.halt = true ∧
      exec .nop State.reset = .next (State.reset.tick 4) ∧ (State.reset.tick 4).halt = false :=
  ⟨rfl, rfl, rfl, rfl⟩

/-- StepKeepsMemoryCanonical: a canonical state whose step stores a byte. -/
theorem test_witness_StepKeepsMemoryCanonical :
    let s := (placed 0x0000 [0x36, 0x28]).setHL 0xFFFF
    Memory.wf s.mem ∧ Memory.wf s.port ∧ (after s fun t => t.mem) = some [(0, 0x36), (1, 0x28), (0xFFFF, 0x28)] := by
  decide

/-- HostLoadCopiesBytes: a load across the wrap; no later byte falls on the address of an earlier one, and an
address outside the load. -/
theorem test_witness_HostLoadCopiesBytes :
    (∀ j, 0 < j → j < 2 → (0xFFFF : Word) + BitVec.ofNat 16 j ≠ 0xFFFF + BitVec.ofNat 16 0) ∧
      (State.reset.load [0x11, 0x22] 0xFFFF).readMem 0xFFFF = 0x11 ∧
      (State.reset.load [0x11, 0x22] 0xFFFF).readMem 0x0000 = 0x22 ∧
      (∀ k, k < 2 → (0x0001 : Word) ≠ 0xFFFF + BitVec.ofNat 16 k) :=
  ⟨fun j h h' => by obtain rfl : j = 1 := by omega
                    decide, by decide, by decide, by decide⟩

/-- ControlRegistersAreStorage, ShadowSetOnlyByExchanges and SpacesUsedOnlyByTheirInstructions: instructions
under each of their hypotheses, the neighbours of the named ones among them. -/
theorem test_witness_StorageRules :
    (Instr.ldAR ≠ .ldIA ∧ Instr.ldAR ≠ .ldAI) ∧ (Instr.ldIA ≠ .ldRA ∧ Instr.ldIA ≠ .ldAR) ∧
      (Instr.reti ≠ .ei ∧ Instr.reti ≠ .di ∧ Instr.reti ≠ .retn ∧ Instr.reti ≠ .ldAI ∧ Instr.reti ≠ .ldAR) ∧
      (Instr.ei ≠ .im0 ∧ Instr.ei ≠ .im1 ∧ Instr.ei ≠ .im2) ∧
      (Instr.exDeHl ≠ .exAfAf ∧ Instr.exDeHl ≠ .exx) ∧
      usesPort .ldir = false ∧ usesMem (.outCR .a) = false ∧ usesMem .exx = false ∧ usesMem .jpHl = false := by
  decide

/-- DataMovesKeepFlags: instructions of it, and POP AF, which is none. -/
theorem test_witness_DataMovesKeepFlags : keepsFlags .exx = true ∧ keepsFlags (.callCcNn .z 0) = true ∧
    keepsFlags (.setIxD 7 0xFF) = true ∧ keepsFlags (.popQq .bc) = true ∧ keepsFlags (.popQq .de) = true ∧
    keepsFlags (.popQq .hl) = true ∧ keepsFlags (.popQq .af) = false := by decide

/-- UnimplementedIsNoOpWithDiag: states that meet the hypotheses of a step over two and over four bytes, the
bytes wrapping past 0xFFFF. -/
theorem test_witness_UnimplementedIsNoOpWithDiag :
    let s := placed 0xFFFF [0xED, 0x70]
    let t := placed 0xFFFD [0xFD, 0xCB, 0x05, 0x36]
    edUnimplemented 0x70 = true ∧ s.halt = false ∧
      (∀ k, k < 2 → s.readMem (s.pc + BitVec.ofNat 16 k) = [0xED, 0x70].getD k 0) ∧
      (xyImplemented 0x44 = false ∧ (0x44 : Byte) ≠ 0xCB) ∧
      xyCbUnimplemented 0x36 = true ∧ t.halt = false ∧
      (∀ k, k < 4 → t.readMem (t.pc + BitVec.ofNat 16 k) = [0xFD, 0xCB, 0x05, 0x36].getD k 0) := by decide

/-- UnimplSeenIsSticky: a step from a state that has seen one, which does not assert DIAG, a step that does, and
instructions of both kinds. -/
theorem test_witness_UnimplSeenIsSticky :
    after { placed 0x0000 [0x00] with unimplSeen := true } (fun t => (t.unimplSeen, t.diag)) =
        some (true, none) ∧
      after (placed 0x0000 [0xCB, 0x30]) (fun t => (t.unimplSeen, t.diag.isSome)) = some (true, true) ∧
      Instr.isUnimplemented (.unimplCb 0) = true ∧
      Instr.isUnimplemented .nop = false ∧ exec .nop State.reset = .next (State.reset.tick 4) :=
  ⟨by decide, by decide, rfl, rfl, rfl⟩

/-- UnspecifiedBitsAreFresh: instructions that draw two, three and no bits, next states, a step and an action of
the host. -/
theorem test_witness_UnspecifiedBitsAreFresh :
    (drawsOf (.bitHl 7) = 2 ∧ drawsOf .otdr = 3 ∧ drawsOf .nop = 0) ∧
      exec (.bitHl 7) State.reset = .next ((State.reset.bitTest 7 .hl).tick 12) ∧
      exec .outi State.reset = .next ((State.reset.blockOut .up).tick 16) ∧
      ((State.reset.blockOut .up).tick 16).draws = 3 ∧
      after (placed 0x0000 [0xCB, 0x7E]) (fun t => t.draws) = some 2 ∧
      (((State.reset.blockOut .up).tick 16).applyHost (.reset ResetDraw.zero)).draws = 3 :=
  ⟨by decide, rfl, rfl, rfl, by decide, rfl⟩

/-- PushThenPopRestores: into the same pair, and into another. -/
theorem test_witness_PushThenPopRestores : (PairQQ.af = .af) ∧ PairQQ.bc ≠ .af := by decide

/-- CallThenReturn: every kind of call and of return, at flag bytes under which the conditional ones are taken,
and one under which they are not. -/
theorem test_witness_CallThenReturn :
    ([Instr.callNn 0xFFFF, .rst 0, .rst 7, .callCcNn .m 0x0000].all (callsUnder 0x80)) = true ∧
      ([Instr.ret, .reti, .retn, .retCc .m, .retCc .nz].all (returnsUnder 0x80)) = true ∧
      callsUnder 0x7F (.callCcNn .m 0x0000) = false ∧ returnsUnder 0x40 (.retCc .nz) = false := by decide

/-- ResetState: a reset at the start, and one in the middle of a run, in the halt state. -/
theorem test_witness_ResetState :
    let running : State := { State.reset with halt := true, draws := 7 }
    State.reset = State.resetWith ResetDraw.zero ∧
      (running.applyHost (.reset ResetDraw.zero)).halt = false ∧
      (running.applyHost (.reset ResetDraw.zero)).draws = 7 := by decide

/-- HaltSetOnlyByHalt: the host's preset of HALT, and an action that does not touch it. -/
theorem test_witness_presetHalt :
    (State.reset.applyHost .presetHalt).halt = true ∧
      (State.reset.applyHost (.presetTCycles 9)).halt = false ∧
      (State.reset.applyHost (.presetTCycles 9)).tCycles = 9 := by decide

/-- Jumps, Calls and ReturnsPopPC: every condition holds of some flag byte and fails of another, and does so
by its own flag alone (R409). -/
theorem test_witness_conditions :
    ([(Cond.nz, 0xBF), (.z, 0x40), (.nc, 0xFE), (.c, 0x01), (.po, 0xFB), (.pe, 0x04), (.p, 0x7F),
        (.m, (0x80 : Byte))].all fun x => condTrue x.1 x.2 && !condTrue x.1 (~~~x.2)) = true := by decide

/-- Jumps: DJNZ with B at 1 (falls through), and at 0 and 2 (taken). -/
theorem test_witness_Jumps :
    (State.reset.setB 1).reg .b = 1 ∧ (State.reset.setB 0).reg .b ≠ 1 ∧ (State.reset.setB 2).reg .b ≠ 1 := by
  decide

/-- BlockTransfer, BlockSearch, BlockInput and BlockOutput: counters at which a repeating form stops, and at
which it goes on, 0 among them. -/
theorem test_witness_block_repeat :
    (State.reset.setBC 1).bc = 1 ∧ (State.reset.setBC 0).bc ≠ 1 ∧ (State.reset.setBC 0x0100).reg .b = 1 ∧
      (State.reset.setBC 0x0007).reg .b ≠ 1 ∧
      ((State.reset.setA 1).regs.a ≠ (State.reset.setA 1).readMem (State.reset.setA 1).hl) := by decide

/-- ADD A,n and DAA on the largest decimal digits: 99 + 99 = 198 (DaaAddsDecimal). -/
theorem test_witness_DaaAddsDecimal :
    (99 < 100) ∧ (State.reset.setA 0x99).regs.a.toNat = 99 / 10 * 16 + 99 % 10 ∧
      (0x99 : Byte).toNat = 99 / 10 * 16 + 99 % 10 ∧
      after (((placed 0x0000 [0x27]).setAF 0x3235)) (fun t => t.af) = some 0x9889 := by decide

end Sys2Proof.Tests
end

section
/-! SUPPORT. What the meanings are made of, where a meaning branches: a property of the next state is proved
once for each operation, and the case split over the instructions cites it. -/

namespace Sys2Proof.Machine

open Sys2Proof.Claims

/-! ### Every instruction answers with a next state -/

/-- A conditional call, whose meaning is a choice of outcomes, as a choice of states. -/
theorem exec_callCcNn (cc : Cond) (nn : Word) (s : State) : exec (.callCcNn cc nn) s =
    .next (if condHolds cc s.flags then (s.callTo nn).tick 17 else s.tick 10) :=
  (apply_ite Host.Outcome.next ..).symm

/-- A conditional return as a choice of states. -/
theorem exec_retCc (cc : Cond) (s : State) : exec (.retCc cc) s =
    .next (if condHolds cc s.flags then s.returnTo.tick 11 else s.tick 5) :=
  (apply_ite Host.Outcome.next ..).symm

/-- A conditional jump as a choice of states, the clock inside. -/
theorem exec_jpCcNn (cc : Cond) (nn : Word) (s : State) : exec (.jpCcNn cc nn) s =
    .next (if condHolds cc s.flags then (s.setPC nn).tick 10 else s.tick 10) :=
  congrArg Host.Outcome.next (apply_ite (State.tick · 10) ..)

theorem exec_next (i : Instr) (s : State) : ∃ t, exec i s = .next t := by
  cases i with
  | callCcNn cc nn => exact ⟨_, exec_callCcNn cc nn s⟩
  | retCc cc => exact ⟨_, exec_retCc cc s⟩
  | _ => exact ⟨_, rfl⟩

/-! ### The canonical form of Mem and Port (log entry 2) -/

/-- Both spaces are in canonical form. -/
def State.Canonical (s : State) : Prop := Memory.wf s.mem ∧ Memory.wf s.port

namespace State.Canonical

variable {s : State} (h : s.Canonical)
include h

theorem tick (n : Nat) : (s.tick n).Canonical := h

theorem setA (v : Byte) : (s.setA v).Canonical := h

theorem setHL (v : Word) : (s.setHL v).Canonical := h

theorem setIX (v : Word) : (s.setIX v).Canonical := h

theorem setIY (v : Word) : (s.setIY v).Canonical := h

theorem setFlags (fl : Flags) : (s.setFlags fl).Canonical := h

theorem setPairDD (p : PairDD) (v : Word) : (s.setPairDD p v).Canonical := by
  cases p <;> exact h

theorem setPairQQ (p : PairQQ) (v : Word) : (s.setPairQQ p v).Canonical := by
  cases p <;> exact h

theorem repeatIf (again : Bool) : (s.repeatIf again).Canonical := by
  cases again <;> exact h

theorem jumpRelIf (taken : Bool) (e : Byte) (m n : Nat) : (s.jumpRelIf taken e m n).Canonical := by
  cases taken <;> exact h

theorem writeMem (a : Word) (v : Byte) : (s.writeMem a v).Canonical := ⟨wf_writeMem a v h.1, h.2⟩

theorem writePort (a : Word) (v : Byte) : (s.writePort a v).Canonical := ⟨h.1, wf_writePort a v h.2⟩

theorem writeMem16 (a v : Word) : (s.writeMem16 a v).Canonical := (h.writeMem a _).writeMem (a + 1) _

theorem push16 (v : Word) : (s.push16 v).Canonical := (h.writeMem _ _).writeMem _ _

theorem callTo (target : Word) : (s.callTo target).Canonical := h.push16 s.pc

theorem write (l : Loc8) (v : Byte) : (l.write v s).Canonical := by
  cases l with
  | reg r => exact h
  | hl | ix d | iy d => exact h.writeMem _ v

theorem incLoc (l : Loc8) : (s.incLoc l).Canonical := (h.write l _).setFlags _

theorem decLoc (l : Loc8) : (s.decLoc l).Canonical := (h.write l _).setFlags _

theorem rotLoc (k : RotOp) (l : Loc8) : (s.rotLoc k l).Canonical := (h.write l _).setFlags _

theorem setBit (b : Fin 8) (l : Loc8) : (s.setBit b l).Canonical := h.write l _

theorem resBit (b : Fin 8) (l : Loc8) : (s.resBit b l).Canonical := h.write l _

theorem blockMove (k : Cursor) : (s.blockMove k).Canonical := h.writeMem s.de _

theorem blockSearch (k : Cursor) : (s.blockSearch k).Canonical := h

theorem blockIn (k : Cursor) : (s.blockIn k).Canonical := h.writeMem s.hl _

theorem blockOut (k : Cursor) : (s.blockOut k).Canonical := h.writePort _ (s.readMem s.hl)

end State.Canonical

/-- An instruction writes Mem and Port a byte at a time, which keeps the form, or not at all. -/
theorem exec_canonical (i : Instr) {s : State} (h : s.Canonical) :
    ∃ t, exec i s = .next t ∧ t.Canonical := by
  cases i with
  | ldHlR | ldIxDR | ldIyDR | ldHlN | ldIxDN | ldIyDN => exact ⟨_, rfl, (h.write _ _).tick _⟩
  | ldBcA | ldDeA | ldNnA => exact ⟨_, rfl, (h.writeMem _ _).tick _⟩
  | ldMemHl | ldMemDd | ldMemIx | ldMemIy => exact ⟨_, rfl, (h.writeMem16 _ _).tick _⟩
  | exSpHl => exact ⟨_, rfl, ((h.writeMem16 _ _).setHL _).tick _⟩
  | exSpIx => exact ⟨_, rfl, ((h.writeMem16 _ _).setIX _).tick _⟩
  | exSpIy => exact ⟨_, rfl, ((h.writeMem16 _ _).setIY _).tick _⟩
  | pushQq | pushIx | pushIy => exact ⟨_, rfl, (h.push16 _).tick _⟩
  | callNn | rst => exact ⟨_, rfl, (h.callTo _).tick _⟩
  | incHl | incIxD | incIyD => exact ⟨_, rfl, (h.incLoc _).tick _⟩
  | decHl | decIxD | decIyD => exact ⟨_, rfl, (h.decLoc _).tick _⟩
  | rlcHl | rlcIxD | rlcIyD | rlHl | rlIxD | rlIyD | rrcHl | rrcIxD | rrcIyD | rrHl | rrIxD | rrIyD
  | slaHl | slaIxD | slaIyD | sraHl | sraIxD | sraIyD | srlHl | srlIxD | srlIyD =>
    exact ⟨_, rfl, (h.rotLoc _ _).tick _⟩
  | setHl | setIxD | setIyD => exact ⟨_, rfl, (h.setBit _ _).tick _⟩
  | resHl | resIxD | resIyD => exact ⟨_, rfl, (h.resBit _ _).tick _⟩
  | rld | rrd => exact ⟨_, rfl, (((h.writeMem _ _).setA _).setFlags _).tick _⟩
  | outNA | outCR => exact ⟨_, rfl, (h.writePort _ _).tick _⟩
  | ldi | ldd => exact ⟨_, rfl, (h.blockMove _).tick _⟩
  | ldir | lddr => exact ⟨_, rfl, (h.blockMove _).repeatIf _⟩
  | cpir | cpdr => exact ⟨_, rfl, (h.blockSearch _).repeatIf _⟩
  | ini | ind => exact ⟨_, rfl, (h.blockIn _).tick _⟩
  | inir | indr => exact ⟨_, rfl, (h.blockIn _).repeatIf _⟩
  | outi | outd => exact ⟨_, rfl, (h.blockOut _).tick _⟩
  | otir | otdr => exact ⟨_, rfl, (h.blockOut _).repeatIf _⟩
  | ldDdNn | ldDdMem | incSs | decSs => exact ⟨_, rfl, (h.setPairDD _ _).tick _⟩
  | popQq qq =>
    have hd : s.dropTop.Canonical := h
    exact ⟨_, rfl, (hd.setPairQQ qq _).tick _⟩
  | jrC | jrNc | jrZ | jrNz => exact ⟨_, rfl, h.jumpRelIf _ _ _ _⟩
  | djnz e =>
    have hb : (s.setB (s.regs.b - 1)).Canonical := h
    exact ⟨_, rfl, hb.jumpRelIf _ e _ _⟩
  | jpCcNn cc nn =>
    refine ⟨_, exec_jpCcNn cc nn s, ?_⟩
    split <;> exact h
  | callCcNn cc nn =>
    refine ⟨_, exec_callCcNn cc nn s, ?_⟩
    split
    · exact (h.callTo nn).tick _
    · exact h
  | retCc cc =>
    refine ⟨_, exec_retCc cc s, ?_⟩
    split <;> exact h
  | _ => exact ⟨_, rfl, h⟩

/-- Settles O9: a halted step touches neither space, and any other runs one instruction. -/
theorem stepKeepsMemoryCanonical : Obligations.StepKeepsMemoryCanonical := by
  intro s t h hstep
  rcases step_cases s with ⟨-, hs⟩ | ⟨i, rest, -, -, hs⟩ | ⟨e, -, -, hs⟩
  · obtain rfl : s.idle = t := Host.Outcome.next.inj (hs.symm.trans hstep)
    exact h
  · have hb : (s.beginInstr (fetchedLength rest)).Canonical := h
    obtain ⟨u, hu, hc⟩ := exec_canonical i hb
    obtain rfl : u = t := Host.Outcome.next.inj (hu.symm.trans (hs.symm.trans hstep))
    exact hc
  · exact nomatch hs.symm.trans hstep

/-- Settles O10: the reset state lists no cell. -/
theorem resetMemoryCanonical : Obligations.ResetMemoryCanonical := ⟨Memory.wf_nil, Memory.wf_nil⟩

/-- Settles O11: both resets are the record of R260's table. -/
theorem resetState : Obligations.ResetState := by
  rintro draw running s (rfl | rfl) <;>
    exact ⟨rfl, rfl, rfl, rfl, rfl, rfl, rfl, rfl, rfl, rfl, rfl, rfl, rfl, rfl, rfl, rfl⟩

end Sys2Proof.Machine
end

section
/-! SUPPORT. The storage of the core (PC, the control registers, HALT, the shadow set, Mem and Port): the parts
that only the instructions named for them reach. `exec_putFor` says that an instruction runs the same with any
other storage in the parts it does not reach, and hands that storage on. That it leaves one part alone, and that
it runs the same whatever the part holds, both follow. -/

namespace Sys2Proof.Machine

open Sys2Proof.Claims

/-- The parts of the state that few instructions reach. -/
structure Storage where
  pc : Word
  i : Byte
  r : Byte
  iff1 : Bool
  iff2 : Bool
  im : IntMode
  halt : Bool
  shadow : RegSet
  mem : Memory
  port : Memory

def State.storage (s : State) : Storage :=
  ⟨s.pc, s.i, s.r, s.iff1, s.iff2, s.im, s.halt, s.shadow, s.mem, s.port⟩

/-! ### Which instructions reach a part; for Mem and Port, `usesMem` and `usesPort` -/

/-- The control transfers (R209), and the unimplemented encodings, whose DIAG reads PC (R1501). -/
def usesPC (i : Instr) : Bool := transfersControl i || i.isUnimplemented

def usesI (i : Instr) : Bool := decide (i = .ldIA) || decide (i = .ldAI)

def usesR (i : Instr) : Bool := decide (i = .ldRA) || decide (i = .ldAR)

def usesIff1 (i : Instr) : Bool := decide (i = .ei) || decide (i = .di) || decide (i = .retn)

def usesIff2 (i : Instr) : Bool := usesIff1 i || decide (i = .ldAI) || decide (i = .ldAR)

def usesIM (i : Instr) : Bool := decide (i = .im0) || decide (i = .im1) || decide (i = .im2)

def usesHalt (i : Instr) : Bool := decide (i = .halt)

def usesShadow (i : Instr) : Bool := decide (i = .exAfAf) || decide (i = .exx)

/-- `s` with the storage `c` in every part that `i` does not reach. -/
def State.putFor (s : State) (i : Instr) (c : Storage) : State :=
  { s with
    pc := bif usesPC i then s.pc else c.pc
    i := bif usesI i then s.i else c.i
    r := bif usesR i then s.r else c.r
    iff1 := bif usesIff1 i then s.iff1 else c.iff1
    iff2 := bif usesIff2 i then s.iff2 else c.iff2
    im := bif usesIM i then s.im else c.im
    halt := bif usesHalt i then s.halt else c.halt
    shadow := bif usesShadow i then s.shadow else c.shadow
    mem := bif usesMem i then s.mem else c.mem
    port := bif usesPort i then s.port else c.port }

@[simp] theorem State.putFor_storage (s : State) (i : Instr) : s.putFor i s.storage = s := by
  simp [putFor, storage]

/-! ### The instruction commutes with the replacement -/

section Transfers
variable {i : Instr} (h : usesPC i = true) (s : State) (c : Storage)
include h

theorem State.repeatIf_putFor (again : Bool) :
    (s.putFor i c).repeatIf again = (s.repeatIf again).putFor i c := by
  cases again <;> simp [putFor, h, repeatIf, setPC, tick]

theorem State.jumpRelIf_putFor (taken : Bool) (e : Byte) (m n : Nat) :
    (s.putFor i c).jumpRelIf taken e m n = (s.jumpRelIf taken e m n).putFor i c := by
  cases taken <;> simp [putFor, h, jumpRelIf, relative, setPC, tick]

end Transfers

/-- An element of a repeating form commutes if its effect and the choice to repeat do. -/
theorem next_repeatIf_putFor {i : Instr} {c : Storage} {t t' : State} {again again' : Bool}
    (h : usesPC i = true) (ht : t' = t.putFor i c) (ha : again' = again) :
    (.next (t'.repeatIf again') : Host.Outcome State Fault Refusal) =
      mapNext (fun u => u.putFor i c) (.next (t.repeatIf again)) := by
  rw [ht, ha, State.repeatIf_putFor h, mapNext]

/-- A relative jump commutes if the state it starts from and its condition do. -/
theorem next_jumpRelIf_putFor {i : Instr} {c : Storage} {t t' : State} {taken taken' : Bool} {e : Byte}
    {m n : Nat} (h : usesPC i = true) (ht : t' = t.putFor i c) (ha : taken' = taken) :
    (.next (t'.jumpRelIf taken' e m n) : Host.Outcome State Fault Refusal) =
      mapNext (fun u => u.putFor i c) (.next (t.jumpRelIf taken e m n)) := by
  rw [ht, ha, State.jumpRelIf_putFor h, mapNext]

/-- A choice of states commutes if both of them do. -/
theorem next_ite_putFor {i : Instr} {c : Storage} {p : Prop} [Decidable p] {t t' u u' : State}
    (ht : t' = t.putFor i c) (hu : u' = u.putFor i c) :
    (.next (if p then t' else u') : Host.Outcome State Fault Refusal) =
      mapNext (fun u => u.putFor i c) (.next (if p then t else u)) := by
  rw [ht, hu, mapNext, apply_ite (State.putFor · i c)]

/-- No instruction reads or writes the storage of the parts it does not reach. Each constructor fixes which parts
these are, and then both sides compute to the same state; only the forms that branch need a case split first. -/
theorem exec_putFor (i : Instr) (c : Storage) (s : State) :
    exec i (s.putFor i c) = mapNext (fun t => t.putFor i c) (exec i s) := by
  cases i with
  | ldDdNn dd | ldDdMem dd | incSs dd | decSs dd => cases dd <;> rfl
  | popQq qq => cases qq <;> rfl
  | ldir | lddr | cpir | cpdr | inir | indr | otir | otdr => exact next_repeatIf_putFor rfl rfl rfl
  | jrC | jrNc | jrZ | jrNz | djnz => exact next_jumpRelIf_putFor rfl rfl rfl
  | jpCcNn cc nn =>
    rw [exec_jpCcNn, exec_jpCcNn]
    exact next_ite_putFor rfl rfl
  | callCcNn cc nn =>
    rw [exec_callCcNn, exec_callCcNn]
    exact next_ite_putFor rfl rfl
  | retCc cc =>
    rw [exec_retCc, exec_retCc]
    exact next_ite_putFor rfl rfl
  | _ => rfl

/-- After an instruction the parts it does not reach are as before. -/
theorem putFor_storage_of_exec {i : Instr} {s t : State} (h : exec i s = .next t) :
    t.putFor i s.storage = t := by
  have hc := exec_putFor i s.storage s
  rw [s.putFor_storage, h] at hc
  exact (Host.Outcome.next.inj hc).symm

/-- An instruction commutes with an update `f` that only puts a storage `c` where `i` does not reach. -/
theorem exec_replace {i : Instr} {s : State} (f : State → State) (c : Storage)
    (hf : ∀ u : State, u.putFor i c = f (u.putFor i s.storage)) : exec i (f s) = mapNext f (exec i s) := by
  obtain ⟨t, ht⟩ := exec_next i s
  have hc := exec_putFor i c s
  simp only [hf, s.putFor_storage, ht, mapNext, putFor_storage_of_exec ht] at hc
  rw [hc, ht, mapNext]

/-! ### One part at a time -/

/-- Settles O14: each register is a part of the storage. -/
theorem controlRegistersAreStorage : Obligations.ControlRegistersAreStorage := by
  intro i s
  refine ⟨fun v h1 h2 => ?_, fun v h1 h2 => ?_, fun b h1 h2 h3 => ?_, fun b h1 h2 h3 h4 h5 => ?_,
    fun m h1 h2 h3 => ?_⟩
  · exact exec_replace (fun t => { t with i := v }) { s.storage with i := v }
      fun u => by simp [State.putFor, usesI, h1, h2]
  · exact exec_replace (fun t => { t with r := v }) { s.storage with r := v }
      fun u => by simp [State.putFor, usesR, h1, h2]
  · exact exec_replace (fun t => { t with iff1 := b }) { s.storage with iff1 := b }
      fun u => by simp [State.putFor, usesIff1, h1, h2, h3]
  · exact exec_replace (fun t => { t with iff2 := b }) { s.storage with iff2 := b }
      fun u => by simp [State.putFor, usesIff2, usesIff1, h1, h2, h3, h4, h5]
  · exact exec_replace (fun t => { t with im := m }) { s.storage with im := m }
      fun u => by simp [State.putFor, usesIM, h1, h2, h3]

/-- Settles O15: the shadow set is a part of the storage, and the exchanges swap the bytes of the pairs. -/
theorem shadowSetOnlyByExchanges : Obligations.ShadowSetOnlyByExchanges := by
  refine fun s => ⟨fun i x h1 h2 => ?_, ⟨_, rfl, ?_, ?_⟩, ⟨_, rfl, ?_, ?_⟩⟩
  · exact exec_replace (fun t => { t with shadow := x }) { s.storage with shadow := x }
      fun u => by simp [State.putFor, usesShadow, h1, h2]
  · simp [RegSet.setAF, RegSet.af]
  · simp [RegSet.setAF, RegSet.af]
  · simp [RegSet.setBC, RegSet.setDE, RegSet.setHL, RegSet.bc, RegSet.de, RegSet.hl]
  · simp [RegSet.setBC, RegSet.setDE, RegSet.setHL, RegSet.bc, RegSet.de, RegSet.hl]

/-- Settles O16: the two spaces are parts of the storage. -/
theorem spacesUsedOnlyByTheirInstructions : Obligations.SpacesUsedOnlyByTheirInstructions := by
  refine fun i s m => ⟨fun h => ?_, fun h => ?_⟩
  · exact exec_replace (fun t => { t with port := m }) { s.storage with port := m }
      fun u => by simp [State.putFor, h]
  · exact exec_replace (fun t => { t with mem := m }) { s.storage with mem := m }
      fun u => by simp [State.putFor, h]

theorem exec_halt_iff {i : Instr} {s t : State} (h : exec i s = .next t) :
    t.halt = true ↔ i = .halt ∨ s.halt = true := by
  by_cases hi : i = .halt
  · subst hi
    obtain rfl : s.setHalt.tick 4 = t := Host.Outcome.next.inj h
    simp
  · have ht : s.halt = t.halt := by
      simpa [State.putFor, State.storage, usesHalt, hi] using congrArg State.halt (putFor_storage_of_exec h)
    simp [hi, ht]

theorem State.applyHost_halt_iff (s : State) (act : HostAction) :
    (s.applyHost act).halt = true ↔ act = .presetHalt ∨ s.halt = true ∧ ∀ draw, act ≠ .reset draw := by
  cases act with
  | load bytes addr =>
    have hk : (s.load bytes addr).halt = s.halt := keeps_load s bytes addr .halt (by simp)
    simp [applyHost, hk]
  | presetReg n alt v => simp [applyHost, presetReg, setRegSet_fields]
  | presetPair n alt v => simp [applyHost, presetPair, setRegSet_fields]
  | presetIndexHalf n v => cases n <;> simp [applyHost, presetIndexHalf]
  | _ => simp [applyHost]

/-- Settles O13: HALT is a part of the storage that HALT alone reaches. -/
theorem haltSetOnlyByHalt : Obligations.HaltSetOnlyByHalt := by
  refine ⟨fun _ _ _ h => exec_halt_iff h, fun s t h hstep => ?_, State.applyHost_halt_iff⟩
  rw [step_of_halt h] at hstep
  exact (Host.Outcome.next.inj hstep).symm

/-! ### Flags -/

/-- F after an instruction that R212 lists; of the others this says nothing. -/
theorem exec_keepsFlags (i : Instr) (s : State) :
    ∃ t, exec i s = .next t ∧ (bif keepsFlags i then t.regs.f else s.regs.f) = s.regs.f := by
  cases i with
  | ldRR | ldRN | ldRHl | ldRIxD | ldRIyD | setR | resR => exact ⟨_, rfl, RegSet.set_f _ _ _⟩
  | ldDdNn dd | ldDdMem dd | incSs dd | decSs dd => exact ⟨_, rfl, by cases dd <;> rfl⟩
  | popQq qq => exact ⟨_, rfl, by cases qq <;> rfl⟩
  | jrC | jrNc | jrZ | jrNz | djnz => exact ⟨_, rfl, by unfold State.jumpRelIf; split <;> rfl⟩
  | jpCcNn cc nn => exact ⟨_, exec_jpCcNn cc nn s, by split <;> rfl⟩
  | callCcNn cc nn => exact ⟨_, exec_callCcNn cc nn s, by split <;> rfl⟩
  | retCc cc => exact ⟨_, exec_retCc cc s, by split <;> rfl⟩
  | _ => exact ⟨_, rfl, rfl⟩

/-- Settles O17. -/
theorem dataMovesKeepFlags : Obligations.DataMovesKeepFlags := by
  intro i s h
  simpa [h] using exec_keepsFlags i s

end Sys2Proof.Machine
end

section
/-! SUPPORT. How many bytes the decoder takes: as many as the encoding of its instruction has, whatever the bytes.
One lemma per table of the decoder; `m` counts the bytes taken before. -/

namespace Sys2Proof

/-- The encoding of the instruction and the bytes after it are `n` bytes together. -/
def Decoded.Spans (n : Nat) : Decoded → Prop
  | .instr i rest => (encode i).length + rest.length = n
  | .rejected _ => True

theorem spans_instr {i : Instr} {m : Nat} (rest : List Byte) (h : (encode i).length = m) :
    (Decoded.instr i rest).Spans (rest.length + m) := by
  rw [Decoded.Spans, h, Nat.add_comm]

theorem spans_withByte {bs : List Byte} {k : Byte → List Byte → Decoded} {m : Nat}
    (h : ∀ b rest, (k b rest).Spans (rest.length + (m + 1))) : (withByte bs k).Spans (bs.length + m) := by
  cases bs with
  | nil => trivial
  | cons b rest => simpa [Nat.add_assoc, Nat.add_comm 1] using h b rest

theorem spans_withWord {bs : List Byte} {k : Word → List Byte → Decoded} {m : Nat}
    (h : ∀ w rest, (k w rest).Spans (rest.length + (m + 2))) : (withWord bs k).Spans (bs.length + m) := by
  match bs with
  | [] | [_] => trivial
  | lo :: hi :: rest => simpa [withWord, Nat.add_assoc, Nat.add_comm 2] using h (joinBytes hi lo) rest


theorem decodeCb_spans (bs : List Byte) : (decodeCb bs).Spans (bs.length + 1) := by
  refine spans_withByte fun op rest => ?_
  dsimp only
  have hR (r : Reg8) : (encode (rotR (opY op) r)).length = 2 := by unfold rotR; split <;> rfl
  have hHl : (encode (rotHl (opY op))).length = 2 := by unfold rotHl; split <;> rfl
  split
  · exact spans_instr rest (hR _)
  · exact spans_instr rest hHl
  all_goals exact spans_instr rest rfl

theorem decodeEd1_spans (op : Byte) (rest : List Byte) : (decodeEd1 op rest).Spans (rest.length + 2) := by
  dsimp only [decodeEd1]
  split
  case h_4 => exact spans_withWord fun _ rest' => spans_instr rest' (by split <;> rfl)
  case h_1 | h_2 | h_5 | h_9 => exact spans_instr rest rfl
  all_goals exact spans_instr rest (by split <;> rfl)

theorem decodeEd_spans (bs : List Byte) : (decodeEd bs).Spans (bs.length + 1) := by
  refine spans_withByte fun op rest => ?_
  split
  · split
    · exact decodeEd1_spans op rest
    · exact spans_instr rest (by unfold edBlock; split <;> rfl)
  · exact spans_instr rest rfl

/-- A row and its IX or IY neighbour have the same length. -/
theorem encode_pick_length (xy : IndexReg) {ix iy : Instr} {m : Nat} (hx : (encode ix).length = m)
    (hy : (encode iy).length = m) : (encode (xy.pick ix iy)).length = m := by
  cases xy
  · exact hx
  · exact hy

theorem decodeXYCb_spans (xy : IndexReg) (bs : List Byte) : (decodeXYCb xy bs).Spans (bs.length + 2) := by
  refine spans_withByte fun d bs' => spans_withByte fun op rest => ?_
  have hx : (encode (rotIxD (opY op) d)).length = 4 := by unfold rotIxD; split <;> rfl
  have hy : (encode (rotIyD (opY op) d)).length = 4 := by unfold rotIyD; split <;> rfl
  dsimp only
  split
  · split
    · exact spans_instr rest (encode_pick_length xy hx hy)
    all_goals exact spans_instr rest (encode_pick_length xy rfl rfl)
  · exact spans_instr rest (encode_pick_length xy rfl rfl)

theorem decodeXY0_spans (xy : IndexReg) (op : Byte) (rest : List Byte) :
    (decodeXY0 xy op rest).Spans (rest.length + 2) := by
  dsimp only [decodeXY0]
  split
  · split
    · exact spans_withWord fun _ rest' => spans_instr rest' (encode_pick_length xy rfl rfl)
    · exact spans_instr rest (encode_pick_length xy rfl rfl)
  · exact spans_withWord fun _ rest' => spans_instr rest' (by split <;> exact encode_pick_length xy rfl rfl)
  · exact spans_instr rest (by split <;> exact encode_pick_length xy rfl rfl)
  · exact spans_withByte fun _ rest' => spans_instr rest' (encode_pick_length xy rfl rfl)
  · exact spans_withByte fun _ rest' => spans_instr rest' (encode_pick_length xy rfl rfl)
  · exact spans_withByte fun _ _ => spans_withByte fun _ rest' =>
      spans_instr rest' (encode_pick_length xy rfl rfl)

theorem decodeXY1_spans (xy : IndexReg) (op : Byte) (rest : List Byte) :
    (decodeXY1 xy op rest).Spans (rest.length + 2) := by
  dsimp only [decodeXY1]
  split
  · exact spans_withByte fun _ rest' => spans_instr rest' (encode_pick_length xy rfl rfl)
  · exact spans_withByte fun _ rest' => spans_instr rest' (encode_pick_length xy rfl rfl)
  · exact spans_instr rest (encode_pick_length xy rfl rfl)

theorem decodeXY_spans (xy : IndexReg) (bs : List Byte) : (decodeXY xy bs).Spans (bs.length + 1) := by
  refine spans_withByte fun op rest => ?_
  split
  · exact decodeXYCb_spans xy rest
  · split
    · split
      · exact decodeXY0_spans xy op rest
      · exact decodeXY1_spans xy op rest
      · refine spans_withByte fun d rest' => spans_instr rest' (encode_pick_length xy ?_ ?_)
        · unfold aluIxD; split <;> rfl
        · unfold aluIyD; split <;> rfl
      · refine spans_instr rest ?_
        unfold xyControl
        split <;> exact encode_pick_length xy rfl rfl
    · exact spans_instr rest (encode_pick_length xy rfl rfl)

theorem decodeMain0_spans (op : Byte) (rest : List Byte) :
    (decodeMain0 op rest).Spans (rest.length + 1) := by
  dsimp only [decodeMain0]
  split
  · split
    case h_1 | h_2 => exact spans_instr rest rfl
    all_goals exact spans_withByte fun _ rest' => spans_instr rest' rfl
  · split
    · exact spans_withWord fun _ rest' => spans_instr rest' rfl
    · exact spans_instr rest rfl
  · split
    case h_1 | h_2 | h_3 | h_4 => exact spans_instr rest rfl
    all_goals exact spans_withWord fun _ rest' => spans_instr rest' rfl
  · exact spans_instr rest (by split <;> rfl)
  · split <;> exact spans_instr rest rfl
  · split <;> exact spans_instr rest rfl
  · exact spans_withByte fun _ rest' => by split <;> exact spans_instr rest' rfl
  · exact spans_instr rest (by split <;> rfl)

theorem decodeMain3_spans (op : Byte) (rest : List Byte) :
    (decodeMain3 op rest).Spans (rest.length + 1) := by
  dsimp only [decodeMain3]
  split
  · exact spans_instr rest rfl
  · split <;> exact spans_instr rest rfl
  · exact spans_withWord fun _ rest' => spans_instr rest' rfl
  · split
    · exact spans_withWord fun _ rest' => spans_instr rest' rfl
    · exact decodeCb_spans rest
    · exact spans_withByte fun _ rest' => spans_instr rest' rfl
    · exact spans_withByte fun _ rest' => spans_instr rest' rfl
    all_goals exact spans_instr rest rfl
  · exact spans_withWord fun _ rest' => spans_instr rest' rfl
  · split
    · exact spans_withWord fun _ rest' => spans_instr rest' rfl
    · exact decodeXY_spans .ix rest
    · exact decodeEd_spans rest
    · exact decodeXY_spans .iy rest
    · exact spans_instr rest rfl
  · exact spans_withByte fun _ rest' => spans_instr rest' (by unfold aluN; split <;> rfl)
  · exact spans_instr rest rfl

theorem decode_spans (bs : List Byte) : (decode bs).Spans bs.length := by
  show Decoded.Spans (bs.length + 0) _
  refine spans_withByte fun op rest => ?_
  split
  · exact decodeMain0_spans op rest
  · exact spans_instr rest (by unfold main1; split <;> rfl)
  · refine spans_instr rest ?_
    unfold main2
    split
    · unfold aluR; split <;> rfl
    · unfold aluHl; split <;> rfl
  · exact decodeMain3_spans op rest

/-- A decoded instruction is as long as the bytes the decoder took for it. -/
theorem encode_length_of_decode {bs rest : List Byte} {i : Instr} (h : decode bs = .instr i rest) :
    (encode i).length + rest.length = bs.length := by
  have hs := decode_spans bs
  rwa [h] at hs

end Sys2Proof

namespace Sys2Proof.Machine

open Sys2Proof.Claims

theorem exec_of_isUnimplemented {i : Instr} (h : i.isUnimplemented = true) (s : State) :
    exec i s = .next (s.raiseUnimplemented (encode i)) := by
  cases i with
  | unimplCb | unimplEd | unimplDd | unimplFd | unimplDdCb | unimplFdCb => rfl
  | _ => exact absurd h Bool.false_ne_true

/-- PC is a part of the storage that a sequential instruction does not reach, or reads for DIAG only. -/
theorem exec_pc {i : Instr} (hi : transfersControl i = false) {s t : State} (h : exec i s = .next t) :
    t.pc = s.pc := by
  cases hu : i.isUnimplemented with
  | false =>
    have ht := congrArg State.pc (putFor_storage_of_exec h)
    simpa [State.putFor, State.storage, usesPC, hi, hu] using ht.symm
  | true =>
    rw [exec_of_isUnimplemented hu] at h
    exact (congrArg State.pc (Host.Outcome.next.inj h)).symm

theorem fetchedLength_of_decode {s : State} {i : Instr} {rest : List Byte}
    (h : decode s.fetchWindow = .instr i rest) : fetchedLength rest = (encode i).length :=
  Nat.sub_eq_of_eq_add (encode_length_of_decode h).symm

/-- Settles O18: the step moves PC past the bytes decoded, and the instruction leaves it there. -/
theorem sequentialInstructionsAdvancePC : Obligations.SequentialInstructionsAdvancePC := by
  intro i s rest hi hhalt hd
  have hw : decode s.fetchWindow = .instr i rest := hd
  obtain ⟨t, ht⟩ := exec_next i (s.beginInstr (fetchedLength rest))
  refine ⟨t, (step_of_decode hhalt hw).trans ht, ?_⟩
  rw [exec_pc hi ht, State.beginInstr_pc, fetchedLength_of_decode hw]

end Sys2Proof.Machine
end

section
/-! SUPPORT. The bytes that a load and a push leave in memory, and what a pop makes of them: the host's load
(R331), and the round trip through the stack (R303). -/

namespace Sys2Proof.Machine

open Sys2Proof.Claims

/-! ### Storing bytes from an address on -/

/-- The addresses of the bytes after the first are those counted from the next address. -/
theorem Word.add_one_add_ofNat (a : Word) (k : Nat) :
    a + 1 + BitVec.ofNat 16 k = a + BitVec.ofNat 16 (k + 1) := by
  rw [BitVec.ofNat_add, ← add_assoc, add_right_comm]
  rfl

theorem State.readMem_storeBytes_of_ne (s : State) (addr : Word) (bytes : List Byte) {x : Word}
    (h : ∀ k, k < bytes.length → x ≠ addr + BitVec.ofNat 16 k) :
    (s.storeBytes addr bytes).readMem x = s.readMem x := by
  induction bytes generalizing s addr with
  | nil => rfl
  | cons v vs ih =>
    have hfirst : x ≠ addr := by simpa using h 0 (Nat.zero_lt_succ _)
    have hrest : ∀ k, k < vs.length → x ≠ addr + 1 + BitVec.ofNat 16 k := fun k hk => by
      rw [Word.add_one_add_ofNat]
      exact h (k + 1) (Nat.succ_lt_succ hk)
    rw [State.storeBytes, ih _ _ hrest, State.readMem_writeMem, if_neg hfirst]

/-- Of the bytes that fall on one address the last is read back: no later byte overwrites byte `k`. -/
theorem State.readMem_storeBytes_last (s : State) (addr : Word) (bytes : List Byte) {k : Nat}
    (hk : k < bytes.length)
    (hlast : ∀ j, k < j → j < bytes.length → addr + BitVec.ofNat 16 j ≠ addr + BitVec.ofNat 16 k) :
    (s.storeBytes addr bytes).readMem (addr + BitVec.ofNat 16 k) = bytes.getD k 0 := by
  induction bytes generalizing s addr k with
  | nil => exact absurd hk (Nat.not_lt_zero k)
  | cons v vs ih =>
    rw [State.storeBytes]
    cases k with
    | zero =>
      have hrest : ∀ j, j < vs.length → addr + BitVec.ofNat 16 0 ≠ addr + 1 + BitVec.ofNat 16 j :=
        fun j hj => by
          rw [Word.add_one_add_ofNat]
          exact (hlast (j + 1) (Nat.succ_pos j) (Nat.succ_lt_succ hj)).symm
      rw [State.readMem_storeBytes_of_ne _ _ _ hrest]
      simp [State.readMem_writeMem]
    | succ k =>
      rw [← Word.add_one_add_ofNat]
      refine ih _ _ (Nat.lt_of_succ_lt_succ hk) fun j hkj hj => ?_
      rw [Word.add_one_add_ofNat, Word.add_one_add_ofNat]
      exact hlast (j + 1) (Nat.succ_lt_succ hkj) (Nat.succ_lt_succ hj)

theorem State.storeBytes_eq_with_mem (s : State) (addr : Word) (bytes : List Byte) :
    s.storeBytes addr bytes = { s with mem := (s.storeBytes addr bytes).mem } := by
  induction bytes generalizing s addr with
  | nil => rfl
  | cons v vs ih => exact ih (s.writeMem addr v) (addr + 1)

/-- Settles O12: the load is `storeBytes`, by induction on the bytes. -/
theorem hostLoadCopiesBytes : Obligations.HostLoadCopiesBytes := fun s bytes addr =>
  ⟨fun _ hk hlast => s.readMem_storeBytes_last addr bytes hk hlast,
    fun _ h => s.readMem_storeBytes_of_ne addr bytes h, s.storeBytes_eq_with_mem addr bytes⟩

/-! ### The stack -/

theorem State.push16_pushes (s : State) (v : Word) : Pushes v s (s.push16 v) := by
  obtain ⟨⟨hlo, hhi, hother⟩, hsp, -⟩ := s.push16_spec v
  have h : s.sp - 2 + 1 = s.sp - 1 := by bv_omega
  rw [h] at hhi hother
  exact ⟨⟨hhi, hlo, fun x h1 h2 => hother x h2 h1⟩, hsp⟩

/-- A pop right after a push reads the word pushed. -/
theorem popped_of_pushes {v : Word} {s t : State} (h : Pushes v s t) : popped t = v := by
  obtain ⟨⟨hhi, hlo, -⟩, hsp⟩ := h
  have hsucc : t.sp + 1 = s.sp - 1 := by rw [hsp]; bv_omega
  rw [popped, hsucc, hsp, hhi, hlo, joinBytes_hi_lo]

/-- A push lowers SP by what a pop raises it by. -/
theorem sp_add_two_of_pushes {v : Word} {s t : State} (h : Pushes v s t) : t.sp + 2 = s.sp := by
  rw [h.2]
  bv_omega

/-! ### The pairs of PUSH and POP -/

theorem keeps_setPairQQ (s : State) (p : PairQQ) (v : Word) :
    KeepsAllBut (qqParts p) s (s.setPairQQ p v) := by
  cases p with
  | bc => exact keeps_setBC s v
  | de => exact keeps_setDE s v
  | hl => exact keeps_setHL s v
  | af =>
    have hf : s.setAF v = (s.setA (hiByte v)).setFlags (Flags.ofByte (loByte v)) := by
      simp [State.setAF, State.setA, State.setFlags, RegSet.setAF]
    show KeepsAllBut _ s (s.setAF v)
    rw [hf]
    exact (keeps_setA s _).trans (keeps_setFlags _ _)

theorem joinBytes_inj {hi lo hi' lo' : Byte} (h : joinBytes hi lo = joinBytes hi' lo') :
    hi = hi' ∧ lo = lo' :=
  ⟨by simpa using congrArg hiByte h, by simpa using congrArg loByte h⟩

/-- A pair holds the same word only if its parts are the same. -/
theorem qqParts_same {p : PairQQ} {s t : State} (h : t.pairQQ p = s.pairQQ p) :
    ∀ q ∈ qqParts p, q.same s t := by
  cases p with
  | af =>
    obtain ⟨ha, hf⟩ := joinBytes_inj h
    simp [qqParts, allFlags, Part.same, State.flags, ha, hf]
  | _ =>
    obtain ⟨hhi, hlo⟩ := joinBytes_inj h
    simp [qqParts, Part.same, State.reg, RegSet.get, hhi, hlo]

/-- A part that is as before after all need not be listed. -/
theorem KeepsAllBut.drop {xs ys : List Part} {s t : State} (h : KeepsAllBut xs s t)
    (hs : ∀ p ∈ xs, p.same s t ∨ p ∈ ys) : KeepsAllBut ys s t := by
  intro p hp
  by_cases hx : p ∈ xs
  · exact (hs p hx).resolve_right hp
  · exact h p hx

theorem exec_pushQq_spec (qq : PairQQ) (s : State) :
    ∃ t, exec (.pushQq qq) s = .next t ∧ Pushes (s.pairQQ qq) s t ∧ KeepsAllBut [.mem, .sp] s t := by
  obtain ⟨-, -, hk⟩ := s.push16_spec (s.pairQQ qq)
  exact ⟨_, rfl, s.push16_pushes _, hk.trans (keeps_tick _ 11)⟩

theorem exec_popQq_spec (qq : PairQQ) (s : State) :
    ∃ t, exec (.popQq qq) s = .next t ∧ t.pairQQ qq = popped s ∧ t.sp = s.sp + 2 ∧
      KeepsAllBut (.sp :: qqParts qq) s t := by
  have hk := keeps_setPairQQ s.dropTop qq s.stackTop
  refine ⟨_, rfl, s.dropTop.pairQQ_setPairQQ qq s.stackTop, by cases qq <;> rfl, ?_⟩
  exact (((keeps_setSP s _).trans hk).trans (keeps_tick _ 10)).mono (by simp)

/-- Settles O31: the pop reads back the word and SP, and leaves the pushed bytes where they are. -/
theorem pushThenPopRestores : Obligations.PushThenPopRestores := by
  intro qq qq' s
  obtain ⟨t, ht, hpush, hkt⟩ := exec_pushQq_spec qq s
  obtain ⟨u, hu, hval, hsp, hku⟩ := exec_popQq_spec qq' t
  have hmem : ∀ x, u.readMem x = t.readMem x := hku .mem (by cases qq' <;> decide)
  have hvalue : u.pairQQ qq' = s.pairQQ qq := hval.trans (popped_of_pushes hpush)
  have hspu : u.sp = s.sp := hsp.trans (sp_add_two_of_pushes hpush)
  have hsame : Part.sp.same s u := hspu
  have hkeeps : KeepsAllBut (.mem :: qqParts qq') s u :=
    (hkt.trans hku).drop (by simp +contextual [hsame])
  have hholds : HoldsPushed (s.pairQQ qq) s u := by simpa only [HoldsPushed, hmem] using hpush.1
  refine ⟨t, u, ht, hu, hpush, hvalue, hval, hsp, hspu, hholds, hkeeps, ?_⟩
  rintro rfl
  exact hkeeps.drop (by simp +contextual [qqParts_same hvalue])

end Sys2Proof.Machine
end

section
/-! SUPPORT. What the decoder reads. `Decoded.Reads` says of every table of the decoder, one lemma a table, that the
bytes it took are the encoding of the instruction it gives, which is well-formed, and that it rejects fewer than
four bytes only. In each row the opcode byte is known by its fields (R401), and the encoder writes that byte. -/

namespace Sys2Proof

open Sys2Proof.Claims Sys2Proof.Machine

/-! ### The opcode maps by their fields (R401, R432 to R434) -/

/-- An opcode byte is its three fields (R401). -/
theorem opcode_fields (op : Byte) :
    op.toNat = 64 * opX op + 8 * opY op + opZ op ∧ opX op < 4 ∧ opY op < 8 ∧ opZ op < 8 := by
  have hop := op.isLt
  simp only [opX, opY, opZ]
  omega

theorem opByte_of_toNat {op : Byte} {n : Nat} (h : op.toNat = n) : opByte n = op := by
  simp [opByte, ← h]

/-- The rows of R432. -/
theorem edDefined_iff (op : Byte) : edDefined op = true ↔
    (opX op = 1 ∧ ((opZ op ≤ 1 ∧ opY op ≠ 6) ∨ opZ op = 2 ∨ opZ op = 3 ∨ (opZ op = 4 ∧ opY op = 0) ∨
      (opZ op = 5 ∧ opY op ≤ 1) ∨ (opZ op = 6 ∧ opY op ≤ 3 ∧ opY op ≠ 1) ∨ (opZ op = 7 ∧ opY op ≤ 5))) ∨
    (opX op = 2 ∧ 4 ≤ opY op ∧ opZ op ≤ 3) := by
  revert op
  decide

/-- The rows of R433. -/
theorem xyDefined_iff (op : Byte) : xyDefined op = true ↔
    (opX op = 0 ∧ ((opZ op = 1 ∧ (opY op = 4 ∨ opY op % 2 = 1)) ∨
      ((opZ op = 2 ∨ opZ op = 3) ∧ (opY op = 4 ∨ opY op = 5)) ∨
      ((opZ op = 4 ∨ opZ op = 5 ∨ opZ op = 6) ∧ opY op = 6))) ∨
    (opX op = 1 ∧ (opY op = 6 ∧ opZ op ≠ 6 ∨ opY op ≠ 6 ∧ opZ op = 6)) ∨
    (opX op = 2 ∧ opZ op = 6) ∨
    (op.toNat = 0xE1 ∨ op.toNat = 0xE3 ∨ op.toNat = 0xE5 ∨ op.toNat = 0xE9 ∨ op.toNat = 0xF9) := by
  revert op
  decide

theorem xyCbDefined_iff (op : Byte) : xyCbDefined op = true ↔ op.toNat % 8 = 6 ∧ op.toNat ≠ 0x36 := by
  simp [xyCbDefined]

theorem xyIsCb_iff (op : Byte) : xyIsCb op = true ↔ op.toNat = 0xCB := by
  simp [xyIsCb]

/-! ### The operand fields read back (R407 to R411) -/

theorem reg8Of_some {n : Nat} {r : Reg8} (h : reg8Of n = some r) : r.code = n := by
  unfold reg8Of at h
  split at h <;> cases h <;> rfl

theorem reg8Of_none {n : Nat} (h : reg8Of n = none) (hn : n < 8) : n = 6 := by
  grind [reg8Of]

theorem pairDDOf_code {n : Nat} (hn : n < 4) : (pairDDOf n).code = n := by
  interval_cases n <;> rfl

theorem pairQQOf_code {n : Nat} (hn : n < 4) : (pairQQOf n).code = n := by
  interval_cases n <;> rfl

theorem pairPPOf_code {n : Nat} (hn : n < 4) : (pairPPOf n).code = n := by
  interval_cases n <;> rfl

theorem pairRROf_code {n : Nat} (hn : n < 4) : (pairRROf n).code = n := by
  interval_cases n <;> rfl

theorem condOf_code {n : Nat} (hn : n < 8) : (condOf n).code = n := by
  interval_cases n <;> rfl

theorem field3_val {n : Nat} (hn : n < 8) : (field3 n).val = n := Nat.mod_eq_of_lt hn

/-! ### The reading of bytes -/

/-- The bytes `bs` are read: into a well-formed instruction, whose encoding and the rest they are; or they end
too early, and are fewer than four. -/
def Decoded.Reads (bs : List Byte) : Decoded → Prop
  | .instr i rest => i.wellFormed = true ∧ encode i ++ rest = bs
  | .rejected _ => bs.length < 4

theorem reads_withByte {bs : List Byte} {k : Byte → List Byte → Decoded} (pre : List Byte)
    (h : ∀ b rest, (k b rest).Reads (pre ++ b :: rest)) (hp : pre.length < 4 := by simp) :
    (withByte bs k).Reads (pre ++ bs) := by
  cases bs with
  | nil => simpa [withByte, Decoded.Reads] using hp
  | cons b rest => exact h b rest

theorem reads_withWord {bs : List Byte} {k : Word → List Byte → Decoded} (pre : List Byte)
    (h : ∀ w rest, (k w rest).Reads (pre ++ loByte w :: hiByte w :: rest))
    (hp : pre.length < 3 := by simp) : (withWord bs k).Reads (pre ++ bs) := by
  match bs with
  | [] => simpa [withWord, Decoded.Reads] using hp.trans (by decide)
  | [b] => simpa [withWord, Decoded.Reads] using Nat.succ_lt_succ hp
  | lo :: hi :: rest => simpa [withWord] using h (joinBytes hi lo) rest

/-- A row of an opcode map: the encoder puts the opcode `n` where the decoder read `op`. -/
theorem reads_instr {i : Instr} {op : Byte} {n : Nat} {rest : List Byte} (pre tl : List Byte)
    (hw : i.wellFormed = true) (he : encode i = pre ++ opByte n :: tl) (hn : op.toNat = n) :
    (Decoded.instr i rest).Reads (pre ++ op :: (tl ++ rest)) :=
  ⟨hw, by simp [he, opByte_of_toNat hn]⟩

/-! ### The operation tables (R412, R413) -/

theorem encode_aluR {y : Nat} (hy : y < 8) (r : Reg8) :
    (aluR y r).wellFormed = true ∧ encode (aluR y r) = [opByte (0x80 + 8 * y + r.code)] := by
  interval_cases y <;> exact ⟨rfl, rfl⟩

theorem encode_aluHl {y : Nat} (hy : y < 8) :
    (aluHl y).wellFormed = true ∧ encode (aluHl y) = [opByte (0x86 + 8 * y)] := by
  interval_cases y <;> exact ⟨rfl, rfl⟩

theorem encode_aluN {y : Nat} (hy : y < 8) (n : Byte) :
    (aluN y n).wellFormed = true ∧ encode (aluN y n) = [opByte (0xC6 + 8 * y), n] := by
  interval_cases y <;> exact ⟨rfl, rfl⟩

theorem encode_aluIxD {y : Nat} (hy : y < 8) (d : Byte) :
    (aluIxD y d).wellFormed = true ∧ encode (aluIxD y d) = [0xDD, opByte (0x86 + 8 * y), d] := by
  interval_cases y <;> exact ⟨rfl, rfl⟩

theorem encode_aluIyD {y : Nat} (hy : y < 8) (d : Byte) :
    (aluIyD y d).wellFormed = true ∧ encode (aluIyD y d) = [0xFD, opByte (0x86 + 8 * y), d] := by
  interval_cases y <;> exact ⟨rfl, rfl⟩

theorem encode_rotR {y : Nat} (hy : y < 8) (r : Reg8) :
    (rotR y r).wellFormed = true ∧ encode (rotR y r) = [0xCB, opByte (8 * y + r.code)] := by
  match y, hy with
  | 6, _ => cases r <;> exact ⟨rfl, rfl⟩
  | 0, _ | 1, _ | 2, _ | 3, _ | 4, _ | 5, _ | 7, _ => exact ⟨rfl, rfl⟩

theorem encode_rotHl {y : Nat} (hy : y < 8) :
    (rotHl y).wellFormed = true ∧ encode (rotHl y) = [0xCB, opByte (8 * y + 6)] := by
  interval_cases y <;> exact ⟨rfl, rfl⟩

theorem encode_rotIxD {y : Nat} (hy : y < 8) (h6 : y ≠ 6) (d : Byte) :
    (rotIxD y d).wellFormed = true ∧ encode (rotIxD y d) = [0xDD, 0xCB, d, opByte (8 * y + 6)] := by
  match y, hy, h6 with
  | 0, _, _ | 1, _, _ | 2, _, _ | 3, _, _ | 4, _, _ | 5, _, _ | 7, _, _ => exact ⟨rfl, rfl⟩
  | 6, _, h => exact absurd rfl h

theorem encode_rotIyD {y : Nat} (hy : y < 8) (h6 : y ≠ 6) (d : Byte) :
    (rotIyD y d).wellFormed = true ∧ encode (rotIyD y d) = [0xFD, 0xCB, d, opByte (8 * y + 6)] := by
  match y, hy, h6 with
  | 0, _, _ | 1, _, _ | 2, _, _ | 3, _, _ | 4, _, _ | 5, _, _ | 7, _, _ => exact ⟨rfl, rfl⟩
  | 6, _, h => exact absurd rfl h

/-! ### The CB and ED tables (R431, R432) -/

theorem decodeCb_reads (bs : List Byte) : (decodeCb bs).Reads ([0xCB] ++ bs) := by
  refine reads_withByte [0xCB] fun op rest => ?_
  obtain ⟨hop, hX, hY, hZ⟩ := opcode_fields op
  have hb := field3_val hY
  dsimp only
  split
  case h_1 r hx hr =>
    obtain ⟨hw, he⟩ := encode_rotR hY r
    exact reads_instr [0xCB] [] hw he (by grind [reg8Of_some])
  case h_2 hx hr =>
    obtain ⟨hw, he⟩ := encode_rotHl hY
    exact reads_instr [0xCB] [] hw he (by grind [reg8Of_none])
  case h_3 r hx hr | h_5 r hx hr | h_7 r hr _ _ =>
    exact reads_instr [0xCB] [] rfl rfl (by grind [reg8Of_some])
  all_goals exact reads_instr [0xCB] [] rfl rfl (by grind [reg8Of_none])

theorem decodeEd1_reads {op : Byte} (hdef : edDefined op = true) (hx : opX op = 1) (rest : List Byte) :
    (decodeEd1 op rest).Reads ([0xED, op] ++ rest) := by
  obtain ⟨hop, -, hY, hZ⟩ := opcode_fields op
  have hrow := (edDefined_iff op).mp hdef
  have hdd := pairDDOf_code (n := opY op / 2) (by omega)
  dsimp only [decodeEd1]
  split
  · next r hz hr => exact reads_instr [0xED] [] rfl rfl (by grind [reg8Of_some])
  · next r hz hr => exact reads_instr [0xED] [] rfl rfl (by grind [reg8Of_some])
  · split <;> exact reads_instr [0xED] [] rfl rfl (by grind)
  · refine reads_withWord [0xED, op] fun w _ => ?_
    split <;> exact reads_instr [0xED] [loByte w, hiByte w] rfl rfl (by grind)
  · exact reads_instr [0xED] [] rfl rfl (by grind)
  · split <;> exact reads_instr [0xED] [] rfl rfl (by grind)
  · split <;> exact reads_instr [0xED] [] rfl rfl (by grind)
  · split <;> exact reads_instr [0xED] [] rfl rfl (by grind)
  · next h0 h1 =>
    have hz : opZ op = 0 ∨ opZ op = 1 := by grind
    have hy : opY op ≠ 6 := by grind
    obtain ⟨r, hr⟩ := Option.ne_none_iff_exists'.mp fun hn => hy (reg8Of_none hn hY)
    exact (hz.elim (h0 r · hr) (h1 r · hr)).elim

theorem decodeEd_reads (bs : List Byte) : (decodeEd bs).Reads ([0xED] ++ bs) := by
  refine reads_withByte [0xED] fun op rest => ?_
  obtain ⟨hop, -, hY, hZ⟩ := opcode_fields op
  split
  · next hdef =>
    split
    · next hx => exact decodeEd1_reads hdef hx rest
    · next hx =>
      have hrow := (edDefined_iff op).mp hdef
      unfold edBlock
      split <;> exact reads_instr [0xED] [] rfl rfl (by grind)
  · next hdef =>
    refine ⟨?_, rfl⟩
    show (!edDefined op) = true
    simpa using hdef

/-! ### The DD and FD tables (R433, R434) -/

/-- The byte DD or FD that selects the index register (R402). -/
def IndexReg.firstByte : IndexReg → Byte
  | .ix => 0xDD
  | .iy => 0xFD

/-- A row of R433 or R434 with its IX and its IY side, which differ in the first byte only. -/
theorem reads_pick {xy : IndexReg} {ix iy : Instr} {op : Byte} {n : Nat} {rest : List Byte}
    (mid tl : List Byte) (hix : ix.wellFormed = true ∧ encode ix = 0xDD :: (mid ++ opByte n :: tl))
    (hiy : iy.wellFormed = true ∧ encode iy = 0xFD :: (mid ++ opByte n :: tl)) (hn : op.toNat = n) :
    (Decoded.instr (xy.pick ix iy) rest).Reads (xy.firstByte :: mid ++ op :: (tl ++ rest)) := by
  cases xy
  · exact reads_instr (0xDD :: mid) tl hix.1 hix.2 hn
  · exact reads_instr (0xFD :: mid) tl hiy.1 hiy.2 hn

theorem decodeXYCb_reads (xy : IndexReg) (bs : List Byte) :
    (decodeXYCb xy bs).Reads ([xy.firstByte, 0xCB] ++ bs) := by
  refine reads_withByte [xy.firstByte, 0xCB] fun d bs' =>
    reads_withByte [xy.firstByte, 0xCB, d] fun op rest => ?_
  obtain ⟨hop, hX, hY, hZ⟩ := opcode_fields op
  have hb := field3_val hY
  dsimp only
  split
  · next hdef =>
    have hrow := (xyCbDefined_iff op).mp hdef
    split
    · have hy : opY op ≠ 6 := by grind
      exact reads_pick [0xCB, d] [] (encode_rotIxD hY hy d) (encode_rotIyD hY hy d) (by grind)
    all_goals exact reads_pick [0xCB, d] [] ⟨rfl, rfl⟩ ⟨rfl, rfl⟩ (by grind)
  · next hdef =>
    have hw : (!xyCbDefined op) = true := by simpa using hdef
    cases xy <;> exact ⟨hw, rfl⟩

theorem decodeXY0_reads (xy : IndexReg) {op : Byte} (hdef : xyDefined op = true) (hx : opX op = 0)
    (rest : List Byte) : (decodeXY0 xy op rest).Reads ([xy.firstByte, op] ++ rest) := by
  obtain ⟨hop, -, hY, hZ⟩ := opcode_fields op
  have hrow := (xyDefined_iff op).mp hdef
  have hpp := pairPPOf_code (n := opY op / 2) (by omega)
  have hrr := pairRROf_code (n := opY op / 2) (by omega)
  dsimp only [decodeXY0]
  split
  · split
    · exact reads_withWord [xy.firstByte, op] fun w _ =>
        reads_pick [] [loByte w, hiByte w] ⟨rfl, rfl⟩ ⟨rfl, rfl⟩ (by grind)
    · exact reads_pick (n := 0x09 + 16 * (opY op / 2)) [] []
        ⟨rfl, congrArg (fun c => [0xDD, opByte (0x09 + 16 * c)]) hpp⟩
        ⟨rfl, congrArg (fun c => [0xFD, opByte (0x09 + 16 * c)]) hrr⟩ (by grind)
  · refine reads_withWord [xy.firstByte, op] fun w _ => ?_
    split <;> exact reads_pick [] [loByte w, hiByte w] ⟨rfl, rfl⟩ ⟨rfl, rfl⟩ (by grind)
  · split <;> exact reads_pick [] [] ⟨rfl, rfl⟩ ⟨rfl, rfl⟩ (by grind)
  · exact reads_withByte [xy.firstByte, op] fun d _ => reads_pick [] [d] ⟨rfl, rfl⟩ ⟨rfl, rfl⟩ (by grind)
  · exact reads_withByte [xy.firstByte, op] fun d _ => reads_pick [] [d] ⟨rfl, rfl⟩ ⟨rfl, rfl⟩ (by grind)
  · exact reads_withByte [xy.firstByte, op] fun d _ => reads_withByte [xy.firstByte, op, d] fun n _ =>
      reads_pick [] [d, n] ⟨rfl, rfl⟩ ⟨rfl, rfl⟩ (by grind)

theorem decodeXY1_reads (xy : IndexReg) {op : Byte} (hdef : xyDefined op = true) (hx : opX op = 1)
    (rest : List Byte) : (decodeXY1 xy op rest).Reads ([xy.firstByte, op] ++ rest) := by
  obtain ⟨hop, -, hY, hZ⟩ := opcode_fields op
  have hrow := (xyDefined_iff op).mp hdef
  unfold decodeXY1
  cases hy : reg8Of (opY op) with
  | some r =>
    cases hz : reg8Of (opZ op) with
    | some r' => grind [reg8Of]
    | none =>
      exact reads_withByte [xy.firstByte, op] fun d _ =>
        reads_pick [] [d] ⟨rfl, rfl⟩ ⟨rfl, rfl⟩ (by grind [reg8Of_some, reg8Of_none])
  | none =>
    cases hz : reg8Of (opZ op) with
    | some r' =>
      exact reads_withByte [xy.firstByte, op] fun d _ =>
        reads_pick [] [d] ⟨rfl, rfl⟩ ⟨rfl, rfl⟩ (by grind [reg8Of_some, reg8Of_none])
    | none => grind [reg8Of_none]

theorem xyControl_reads (xy : IndexReg) {op : Byte} (hdef : xyDefined op = true) (hx : opX op = 3)
    (rest : List Byte) : (Decoded.instr (xyControl xy op) rest).Reads ([xy.firstByte, op] ++ rest) := by
  obtain ⟨hop, -, hY, hZ⟩ := opcode_fields op
  have hrow := (xyDefined_iff op).mp hdef
  unfold xyControl
  split <;> exact reads_pick [] [] ⟨rfl, rfl⟩ ⟨rfl, rfl⟩ (by grind)

theorem decodeXY_reads (xy : IndexReg) (bs : List Byte) :
    (decodeXY xy bs).Reads ([xy.firstByte] ++ bs) := by
  refine reads_withByte [xy.firstByte] fun op rest => ?_
  obtain ⟨hop, hX, hY, hZ⟩ := opcode_fields op
  split
  · next hcb =>
    obtain rfl : opByte 0xCB = op := opByte_of_toNat ((xyIsCb_iff op).mp hcb)
    exact decodeXYCb_reads xy rest
  · next hcb =>
    split
    · next hdef =>
      split
      · next hx => exact decodeXY0_reads xy hdef hx rest
      · next hx => exact decodeXY1_reads xy hdef hx rest
      · next hx =>
        have hrow := (xyDefined_iff op).mp hdef
        exact reads_withByte [xy.firstByte, op] fun d _ =>
          reads_pick [] [d] (encode_aluIxD hY d) (encode_aluIyD hY d) (by grind)
      · exact xyControl_reads xy hdef (by grind) rest
    · next hdef =>
      have hw : (!xyDefined op && !xyIsCb op) = true := by simp [hdef, hcb]
      cases xy <;> exact ⟨hw, rfl⟩

/-! ### The main table (R430) -/

theorem decodeMain0_reads {op : Byte} (hx : opX op = 0) (rest : List Byte) :
    (decodeMain0 op rest).Reads ([op] ++ rest) := by
  obtain ⟨hop, -, hY, hZ⟩ := opcode_fields op
  have hdd := pairDDOf_code (n := opY op / 2) (by omega)
  dsimp only [decodeMain0]
  split
  · split
    case h_1 | h_2 => exact reads_instr [] [] rfl rfl (by grind)
    all_goals exact reads_withByte [op] fun e _ => reads_instr [] [e] rfl rfl (by grind)
  · split
    · exact reads_withWord [op] fun w _ => reads_instr [] [loByte w, hiByte w] rfl rfl (by grind)
    · exact reads_instr [] [] rfl rfl (by grind)
  · split
    case h_1 | h_2 | h_3 | h_4 => exact reads_instr [] [] rfl rfl (by grind)
    all_goals exact reads_withWord [op] fun w _ => reads_instr [] [loByte w, hiByte w] rfl rfl (by grind)
  · split <;> exact reads_instr [] [] rfl rfl (by grind)
  · split
    · next r hr => exact reads_instr [] [] rfl rfl (by grind [reg8Of_some])
    · next hr => exact reads_instr [] [] rfl rfl (by grind [reg8Of_none])
  · split
    · next r hr => exact reads_instr [] [] rfl rfl (by grind [reg8Of_some])
    · next hr => exact reads_instr [] [] rfl rfl (by grind [reg8Of_none])
  · refine reads_withByte [op] fun n _ => ?_
    split
    · next r hr => exact reads_instr [] [n] rfl rfl (by grind [reg8Of_some])
    · next hr => exact reads_instr [] [n] rfl rfl (by grind [reg8Of_none])
  · split <;> exact reads_instr [] [] rfl rfl (by grind)

theorem decodeMain3_reads {op : Byte} (hx : opX op = 3) (rest : List Byte) :
    (decodeMain3 op rest).Reads ([op] ++ rest) := by
  obtain ⟨hop, -, hY, hZ⟩ := opcode_fields op
  have hcc := condOf_code hY
  have hqq := pairQQOf_code (n := opY op / 2) (by omega)
  have ht := field3_val hY
  dsimp only [decodeMain3]
  split
  · exact reads_instr [] [] rfl rfl (by grind)
  · split <;> exact reads_instr [] [] rfl rfl (by grind)
  · exact reads_withWord [op] fun w _ => reads_instr [] [loByte w, hiByte w] rfl rfl (by grind)
  · split
    · exact reads_withWord [op] fun w _ => reads_instr [] [loByte w, hiByte w] rfl rfl (by grind)
    · obtain rfl : opByte 0xCB = op := opByte_of_toNat (by grind)
      exact decodeCb_reads rest
    · exact reads_withByte [op] fun n _ => reads_instr [] [n] rfl rfl (by grind)
    · exact reads_withByte [op] fun n _ => reads_instr [] [n] rfl rfl (by grind)
    all_goals exact reads_instr [] [] rfl rfl (by grind)
  · exact reads_withWord [op] fun w _ => reads_instr [] [loByte w, hiByte w] rfl rfl (by grind)
  · split
    · exact reads_withWord [op] fun w _ => reads_instr [] [loByte w, hiByte w] rfl rfl (by grind)
    · obtain rfl : opByte 0xDD = op := opByte_of_toNat (by grind)
      exact decodeXY_reads .ix rest
    · obtain rfl : opByte 0xED = op := opByte_of_toNat (by grind)
      exact decodeEd_reads rest
    · obtain rfl : opByte 0xFD = op := opByte_of_toNat (by grind)
      exact decodeXY_reads .iy rest
    · exact reads_instr [] [] rfl rfl (by grind)
  · refine reads_withByte [op] fun n _ => ?_
    obtain ⟨hw, he⟩ := encode_aluN hY n
    exact reads_instr [] [n] hw he (by grind)
  · exact reads_instr [] [] rfl rfl (by grind)

theorem main1_reads {op : Byte} (hx : opX op = 1) (rest : List Byte) :
    (Decoded.instr (main1 op) rest).Reads ([op] ++ rest) := by
  obtain ⟨hop, -, hY, hZ⟩ := opcode_fields op
  unfold main1
  split <;> exact reads_instr [] [] rfl rfl (by grind [reg8Of_some, reg8Of_none])

theorem main2_reads {op : Byte} (hx : opX op = 2) (rest : List Byte) :
    (Decoded.instr (main2 op) rest).Reads ([op] ++ rest) := by
  obtain ⟨hop, -, hY, hZ⟩ := opcode_fields op
  unfold main2
  split
  · next r hr =>
    obtain ⟨hw, he⟩ := encode_aluR hY r
    exact reads_instr [] [] hw he (by grind [reg8Of_some])
  · next hr =>
    obtain ⟨hw, he⟩ := encode_aluHl hY
    exact reads_instr [] [] hw he (by grind [reg8Of_none])

theorem decode_reads (bs : List Byte) : (decode bs).Reads bs := by
  refine reads_withByte [] fun op rest => ?_
  obtain ⟨hop, hX, hY, hZ⟩ := opcode_fields op
  split
  · next hx => exact decodeMain0_reads hx rest
  · next hx => exact main1_reads hx rest
  · next hx => exact main2_reads hx rest
  · exact decodeMain3_reads (by grind) rest

end Sys2Proof
end

section
/-! SUPPORT. The round trip of the encoder and the decoder, and which encodings are unimplemented. -/

namespace Sys2Proof

open Sys2Proof.Claims Sys2Proof.Machine

/-! ### Which unimplemented instructions are well-formed (R451 to R453) -/

@[simp] theorem wellFormed_unimplEd (op : Byte) : (Instr.unimplEd op).wellFormed = !edDefined op := rfl

@[simp] theorem wellFormed_unimplDd (op : Byte) :
    (Instr.unimplDd op).wellFormed = (!xyDefined op && !xyIsCb op) := rfl

@[simp] theorem wellFormed_unimplFd (op : Byte) :
    (Instr.unimplFd op).wellFormed = (!xyDefined op && !xyIsCb op) := rfl

@[simp] theorem wellFormed_unimplDdCb (d op : Byte) :
    (Instr.unimplDdCb d op).wellFormed = !xyCbDefined op := rfl

@[simp] theorem wellFormed_unimplFdCb (d op : Byte) :
    (Instr.unimplFdCb d op).wellFormed = !xyCbDefined op := rfl

/-! ### The decoder reads what the encoder writes -/

/-- By the operands that stand in the opcode: for each of their values the opcode is a fixed byte, and the
decoder runs on it, whatever the bytes after it. An `nn` is joined from its two bytes again. -/
theorem decode_encode (i : Instr) (rest : List Byte) (h : i.wellFormed = true) :
    decode (encode i ++ rest) = .instr i rest := by
  cases i with
  | ldRR r r' => cases r <;> cases r' <;> rfl
  | ldRN r | ldRHl r | ldRIxD r | ldRIyD r | ldHlR r | ldIxDR _ r | ldIyDR _ r | addAR r | adcAR r | subR r
  | sbcAR r | andR r | orR r | xorR r | cpR r | incR r | decR r | rlcR r | rlR r | rrcR r | rrR r | slaR r
  | sraR r | srlR r | inRC r | outCR r => cases r <;> rfl
  | addHlSs rp | adcHlSs rp | sbcHlSs rp | incSs rp | decSs rp | pushQq rp | popQq rp | addIxPp rp
  | addIyRr rp => cases rp <;> rfl
  | retCc cc => cases cc <;> rfl
  | ldDdNn rp nn | ldDdMem rp nn | ldMemDd nn rp =>
    conv_rhs => rw [← joinBytes_hi_lo nn]
    cases rp <;> rfl
  | jpCcNn cc nn | callCcNn cc nn =>
    conv_rhs => rw [← joinBytes_hi_lo nn]
    cases cc <;> rfl
  | ldANn nn | ldNnA nn | ldIxNn nn | ldIyNn nn | ldHlMem nn | ldIxMem nn | ldIyMem nn | ldMemHl nn
  | ldMemIx nn | ldMemIy nn | jpNn nn | callNn nn =>
    conv_rhs => rw [← joinBytes_hi_lo nn]
    rfl
  | bitR b r | setR b r | resR b r =>
    clear h
    revert b
    cases r <;> exact forall_field3 ⟨rfl, rfl, rfl, rfl, rfl, rfl, rfl, rfl⟩
  | bitHl b | bitIxD b | bitIyD b | setHl b | setIxD b | setIyD b | resHl b | resIxD b | resIyD b | rst b
  | unimplCb b =>
    clear h
    revert b
    exact forall_field3 ⟨rfl, rfl, rfl, rfl, rfl, rfl, rfl, rfl⟩
  | unimplEd op =>
    have hdef : ¬edDefined op = true := by simpa using h
    exact if_neg hdef
  | unimplDd op | unimplFd op =>
    obtain ⟨hdef, hcb⟩ : ¬xyDefined op = true ∧ ¬xyIsCb op = true := by simpa using h
    exact (if_neg hcb).trans (if_neg hdef)
  | unimplDdCb d op | unimplFdCb d op =>
    have hdef : ¬xyCbDefined op = true := by simpa using h
    exact if_neg hdef
  | _ => rfl

theorem encode_of_decode {bs rest : List Byte} {i : Instr} (h : decode bs = .instr i rest) :
    i.wellFormed = true ∧ encode i ++ rest = bs := by
  have hr := decode_reads bs
  rwa [h] at hr

theorem decode_encode_iff (i : Instr) (rest : List Byte) :
    decode (encode i ++ rest) = .instr i rest ↔ i.wellFormed = true :=
  ⟨fun h => (encode_of_decode h).1, decode_encode i rest⟩

/-- Settles O1, by a case for each constructor. -/
theorem decodeOfEncode : Obligations.DecodeOfEncode := decode_encode

/-- Settles O2, by the lemma `_reads` of each table of the decoder. -/
theorem encodeOfDecode : Obligations.EncodeOfDecode := fun _ _ _ => encode_of_decode

/-! ### Four bytes are enough (R400, R454) -/

theorem encode_ne_nil (i : Instr) : encode i ≠ [] := by
  cases i <;> exact List.cons_ne_nil _ _

/-- Settles O3: only fewer than four bytes are rejected. -/
theorem everyFourBytesDecode : Obligations.EveryFourBytesDecode := by
  intro b0 b1 b2 b3
  cases hd : decode [b0, b1, b2, b3] with
  | rejected e =>
    have hr := decode_reads [b0, b1, b2, b3]
    rw [hd] at hr
    exact absurd hr (lt_irrefl 4)
  | instr i rest =>
    obtain ⟨-, he⟩ := encode_of_decode hd
    have hpos : 0 < (encode i).length := List.length_pos_iff.mpr (encode_ne_nil i)
    have hlen : (encode i).length + rest.length = 4 := encode_length_of_decode hd
    exact ⟨i, rest, rfl, by omega, he.symm⟩

/-! ### The unimplemented encodings (R451 to R453) -/

theorem edDefined_eq (op : Byte) : edDefined op = !edUnimplemented op.toNat := by
  revert op
  decide

theorem xyDefined_eq (op : Byte) : xyDefined op = xyImplemented op.toNat := by
  revert op
  decide

theorem xyCbDefined_eq (op : Byte) : xyCbDefined op = !xyCbUnimplemented op.toNat := by
  simp [xyCbDefined, xyCbUnimplemented, bne]

theorem wellFormed_unimplEd_iff (op : Byte) :
    (Instr.unimplEd op).wellFormed = true ↔ edUnimplemented op.toNat = true := by
  simp [edDefined_eq]

theorem wellFormed_unimplDd_iff (op : Byte) :
    (Instr.unimplDd op).wellFormed = true ↔ xyImplemented op.toNat = false ∧ op ≠ 0xCB := by
  simp [xyDefined_eq, xyIsCb, ← BitVec.toNat_inj]

theorem wellFormed_unimplDdCb_iff (d op : Byte) :
    (Instr.unimplDdCb d op).wellFormed = true ↔ xyCbUnimplemented op.toNat = true := by
  simp [xyCbDefined_eq]

theorem decode_unimplCb_iff (op : Byte) (rest : List Byte) :
    (∃ z, decode (0xCB :: op :: rest) = .instr (.unimplCb z) rest) ↔ 0x30 ≤ op.toNat ∧ op.toNat ≤ 0x37 := by
  constructor
  · rintro ⟨z, hz⟩
    obtain ⟨-, he⟩ := encode_of_decode hz
    have hop : opByte (0x30 + z.val) = op := by simpa [encode] using he
    have hval : (opByte (0x30 + z.val)).toNat = 0x30 + z.val := Nat.mod_eq_of_lt (by omega)
    rw [hop] at hval
    omega
  · rintro ⟨hlo, hhi⟩
    obtain ⟨z, hz⟩ : ∃ z : Fin 8, op.toNat = 0x30 + z.val :=
      ⟨⟨op.toNat - 0x30, by omega⟩, (Nat.add_sub_cancel' hlo).symm⟩
    rw [← opByte_of_toNat hz]
    exact ⟨z, decode_encode (.unimplCb z) rest rfl⟩

/-- Settles O4: such an encoding decodes to its instruction because this is well-formed, and no other does. -/
theorem unimplementedClasses : Obligations.UnimplementedClasses := by
  refine ⟨fun op rest => ⟨(decode_unimplCb_iff op rest).symm, ?_, ?_, ?_, fun d => ?_, fun d => ?_⟩,
    ?_, ?_, ?_⟩
  · exact ((decode_encode_iff (.unimplEd op) rest).trans (wellFormed_unimplEd_iff op)).symm
  · exact ((decode_encode_iff (.unimplDd op) rest).trans (wellFormed_unimplDd_iff op)).symm
  · exact ((decode_encode_iff (.unimplFd op) rest).trans (wellFormed_unimplDd_iff op)).symm
  · exact ((decode_encode_iff (.unimplDdCb d op) rest).trans (wellFormed_unimplDdCb_iff d op)).symm
  · exact ((decode_encode_iff (.unimplFdCb d op) rest).trans (wellFormed_unimplDdCb_iff d op)).symm
  · rfl
  · rfl
  · rfl

end Sys2Proof
end

section
/-! SUPPORT. A step over an encoding, the no-op of the unimplemented ones, and the 8-bit operand forms. -/

namespace Sys2Proof.Machine

open Sys2Proof.Claims

/-! ### A step over an encoding -/

/-- The window starts with the bytes that stand at PC, if they are four at most. -/
theorem fetchWindow_eq_append {s : State} {bs : List Byte} (hlen : bs.length ≤ 4)
    (h : ∀ k, k < bs.length → s.readMem (s.pc + BitVec.ofNat 16 k) = bs.getD k 0) :
    s.fetchWindow = bs ++ s.fetchWindow.drop bs.length := by
  have hw : s.fetchWindow = (List.range 4).map fun k => s.readMem (s.pc + BitVec.ofNat 16 k) := by
    simp [State.fetchWindow, List.range_succ]
  have htake : s.fetchWindow.take bs.length = bs := by
    refine List.ext_getElem (by simp [State.fetchWindow, hlen]) fun k hk hk' => ?_
    simpa [hw, hk'] using h k hk'
  conv_lhs => rw [← List.take_append_drop bs.length s.fetchWindow, htake]

theorem encode_length_le_four (i : Instr) : (encode i).length ≤ 4 := by
  cases i <;> exact Nat.le_of_ble_eq_true rfl

/-- A step over the encoding of a well-formed instruction runs that instruction. -/
theorem step_of_encode {s : State} {i : Instr} (hw : i.wellFormed = true) (hhalt : s.halt = false)
    (h : ∀ k, k < (encode i).length → s.readMem (s.pc + BitVec.ofNat 16 k) = (encode i).getD k 0) :
    step s = exec i (s.beginInstr (encode i).length) := by
  have hd := decode_encode i (s.fetchWindow.drop (encode i).length) hw
  rw [← fetchWindow_eq_append (encode_length_le_four i) h] at hd
  rw [step_of_decode hhalt hd, fetchedLength_of_decode hd]

theorem reports_of_isUnimplemented {i : Instr} (hu : i.isUnimplemented = true) (hw : i.wellFormed = true) :
    StepReportsUnimplemented (encode i) := by
  intro s hhalt h
  have hpc : s.pc + BitVec.ofNat 16 (encode i).length - BitVec.ofNat 16 (encode i).length = s.pc :=
    BitVec.add_sub_cancel ..
  rw [step_of_encode hw hhalt h, exec_of_isUnimplemented hu, State.raiseUnimplemented, State.beginInstr, hpc]

theorem keeps_raiseUnimplemented (s : State) (bs : List Byte) :
    KeepsAllBut [.diag, .unimplSeen] s (s.raiseUnimplemented bs) := by
  intro p hp
  cases p with
  | diag | unimplSeen => simp at hp
  | mem | port => exact fun _ => rfl
  | _ => rfl

theorem raises_of_isUnimplemented {i : Instr} (hu : i.isUnimplemented = true) :
    RaisesUnimplemented i (encode i) :=
  ⟨rfl, fun s => ⟨_, exec_of_isUnimplemented hu s, rfl, rfl, keeps_raiseUnimplemented s _⟩⟩

/-- Settles O19: each of these encodings is that of a well-formed unimplemented instruction. -/
theorem unimplementedIsNoOpWithDiag : Obligations.UnimplementedIsNoOpWithDiag := by
  refine ⟨fun z => ⟨?_, ?_⟩, fun op => ⟨fun h => ?_, ?_⟩, fun op => ⟨fun h hcb => ?_, ?_, ?_⟩,
    fun d op => ⟨fun h => ?_, ?_, ?_⟩⟩
  · exact reports_of_isUnimplemented (i := .unimplCb z) rfl rfl
  · exact raises_of_isUnimplemented rfl
  · exact reports_of_isUnimplemented (i := .unimplEd op) rfl ((wellFormed_unimplEd_iff op).mpr h)
  · exact raises_of_isUnimplemented rfl
  · have hw := (wellFormed_unimplDd_iff op).mpr ⟨h, hcb⟩
    exact ⟨reports_of_isUnimplemented (i := .unimplDd op) rfl hw,
      reports_of_isUnimplemented (i := .unimplFd op) rfl hw⟩
  · exact raises_of_isUnimplemented rfl
  · exact raises_of_isUnimplemented rfl
  · have hw := (wellFormed_unimplDdCb_iff d op).mpr h
    exact ⟨reports_of_isUnimplemented (i := .unimplDdCb d op) rfl hw,
      reports_of_isUnimplemented (i := .unimplFdCb d op) rfl hw⟩
  · exact raises_of_isUnimplemented rfl
  · exact raises_of_isUnimplemented rfl

/-- Settles O6: the four bytes are the window that the step decodes. -/
theorem stepRunsDecodedInstruction : Obligations.StepRunsDecodedInstruction := fun _ _ _ => step_of_decode

/-- Settles O22: the indexed address is the model's `indexed`. -/
theorem operandForms : Obligations.OperandForms := fun s =>
  ⟨fun _ => rfl, fun _ => rfl, rfl, fun d => ⟨_, indexed_toNat s.ix d, rfl⟩,
    fun d => ⟨_, indexed_toNat s.iy d, rfl⟩⟩

end Sys2Proof.Machine
end

section
/-! SUPPORT. The unspecified flag bits (U1, U2; log entry 3), and decimal addition by ADD and DAA (R530). -/

namespace Sys2Proof.Machine

open Sys2Proof.Claims

/-! ### Which flags are drawn, and how far the counter moves -/

/-- From `s` to `t` the next `n` unspecified bits are drawn: two of them are S and PV (U1), three are S, H and
PV (U2). -/
def State.DrawsFresh (n : Nat) (s t : State) : Prop :=
  t.draws = s.draws + n ∧
    (n = 2 → t.flags.s = Config.unspecBit s.draws ∧ t.flags.pv = Config.unspecBit (s.draws + 1)) ∧
    (n = 3 → t.flags.s = Config.unspecBit s.draws ∧ t.flags.h = Config.unspecBit (s.draws + 1) ∧
      t.flags.pv = Config.unspecBit (s.draws + 2))

namespace State.DrawsFresh

theorem of_eq_zero {n : Nat} {s t : State} (hn : n = 0) (h : t.draws = s.draws + n) : DrawsFresh n s t := by
  subst hn
  exact ⟨h, nofun, nofun⟩

theorem bitTest (s : State) (b : Fin 8) (l : Loc8) : DrawsFresh 2 s (s.bitTest b l) := by
  obtain ⟨hf, hd, -⟩ := s.bitTest_spec b l
  exact ⟨hd, fun _ => hf ▸ ⟨rfl, rfl⟩, nofun⟩

theorem blockIn (s : State) (k : Cursor) : DrawsFresh 3 s (s.blockIn k) := by
  obtain ⟨-, -, -, hf, hd, -⟩ := s.blockIn_spec k
  exact ⟨hd, nofun, fun _ => hf ▸ ⟨rfl, rfl, rfl⟩⟩

theorem blockOut (s : State) (k : Cursor) : DrawsFresh 3 s (s.blockOut k) := by
  obtain ⟨-, -, -, hf, hd, -⟩ := s.blockOut_spec k
  exact ⟨hd, nofun, fun _ => hf ▸ ⟨rfl, rfl, rfl⟩⟩

variable {n : Nat} {s t : State} (h : DrawsFresh n s t)
include h

theorem tick (m : Nat) : DrawsFresh n s (t.tick m) := h

theorem repeatIf (again : Bool) : DrawsFresh n s (t.repeatIf again) := by
  cases again <;> exact h

end State.DrawsFresh

/-- Only BIT and the block input and output draw (U1, U2). -/
theorem exec_draws (i : Instr) (s : State) : ∃ t, exec i s = .next t ∧ s.DrawsFresh (drawsOf i) t := by
  cases i with
  | bitR | bitHl | bitIxD | bitIyD => exact ⟨_, rfl, (State.DrawsFresh.bitTest s _ _).tick _⟩
  | ini | ind => exact ⟨_, rfl, (State.DrawsFresh.blockIn s _).tick _⟩
  | inir | indr => exact ⟨_, rfl, (State.DrawsFresh.blockIn s _).repeatIf _⟩
  | outi | outd => exact ⟨_, rfl, (State.DrawsFresh.blockOut s _).tick _⟩
  | otir | otdr => exact ⟨_, rfl, (State.DrawsFresh.blockOut s _).repeatIf _⟩
  | ldir | lddr | cpir | cpdr => exact ⟨_, rfl, (State.DrawsFresh.of_eq_zero rfl rfl).repeatIf _⟩
  | ldDdNn dd | ldDdMem dd | incSs dd | decSs dd => exact ⟨_, rfl, .of_eq_zero rfl (by cases dd <;> rfl)⟩
  | popQq qq => exact ⟨_, rfl, .of_eq_zero rfl (by cases qq <;> rfl)⟩
  | jrC | jrNc | jrZ | jrNz | djnz =>
    exact ⟨_, rfl, .of_eq_zero rfl (by unfold State.jumpRelIf; split <;> rfl)⟩
  | jpCcNn cc nn => exact ⟨_, exec_jpCcNn cc nn s, .of_eq_zero rfl (by split <;> rfl)⟩
  | callCcNn cc nn => exact ⟨_, exec_callCcNn cc nn s, .of_eq_zero rfl (by split <;> rfl)⟩
  | retCc cc => exact ⟨_, exec_retCc cc s, .of_eq_zero rfl (by split <;> rfl)⟩
  | _ => exact ⟨_, rfl, .of_eq_zero rfl rfl⟩

theorem draws_of_exec {i : Instr} {s t : State} (h : exec i s = .next t) : s.DrawsFresh (drawsOf i) t := by
  obtain ⟨u, hu, hd⟩ := exec_draws i s
  obtain rfl : u = t := Host.Outcome.next.inj (hu.symm.trans h)
  exact hd

theorem State.draws_le_of_step {s t : State} (hstep : step s = .next t) : s.draws ≤ t.draws := by
  rcases step_cases s with ⟨-, hs⟩ | ⟨i, rest, -, -, hs⟩ | ⟨e, -, -, hs⟩
  · obtain rfl : s.idle = t := Host.Outcome.next.inj (hs.symm.trans hstep)
    simp
  · have hd := (draws_of_exec (hs.symm.trans hstep)).1
    simp [hd]
  · exact nomatch hs.symm.trans hstep

theorem State.applyHost_draws (s : State) (act : HostAction) : (s.applyHost act).draws = s.draws := by
  cases act with
  | load bytes addr => exact keeps_load s bytes addr .draws (by simp)
  | presetReg n alt v | presetPair n alt v =>
    obtain ⟨-, -, hd⟩ := s.setRegSet_fields alt _
    exact hd
  | presetIndexHalf n v => cases n <;> rfl
  | _ => rfl

/-- Settles O21: an instruction draws what `drawsOf` says, and neither a halted step nor the host draws. -/
theorem unspecifiedBitsAreFresh : Obligations.UnspecifiedBitsAreFresh :=
  ⟨fun _ _ _ => draws_of_exec, fun _ _ => State.draws_le_of_step, State.applyHost_draws⟩

/-! ### Decimal addition -/

/-- The two corrections are in different digits, so the correction is their sum. -/
theorem daaCorr_toNat (a : Byte) (c h : Bool) : (daaCorr a c h).toNat =
    (if h || decide (9 < a.toNat % 16) then 6 else 0) + (if c || decide (0x99 < a.toNat) then 96 else 0) := by
  unfold daaCorr
  split <;> split <;> rfl

section DecimalDigits
variable {a b : Byte} {x y : Nat}
  (ha : a.toNat = x / 10 * 16 + x % 10) (hb : b.toNat = y / 10 * 16 + y % 10)
include ha hb

/-- After an addition of decimal digits DAA corrects the low digit when the low digits carry. -/
theorem add8_low_digit_carry : ((add8 a b false).flags.h || decide (9 < (add8 a b false).res.toNat % 16)) =
    decide (10 ≤ x % 10 + y % 10) := by
  rw [add8_h, add8_res, ha, hb, Bool.toNat_false, ← Bool.decide_or, decide_eq_decide]
  omega

variable (hx : x < 100) (hy : y < 100)
include hx hy

/-- After an addition of decimal digits DAA corrects the high digit when the whole sum carries. -/
theorem add8_high_digit_carry : ((add8 a b false).flags.c || decide (0x99 < (add8 a b false).res.toNat)) =
    decide (100 ≤ x + y) := by
  have hc : (add8 a b false).flags.c = decide (255 < a.toNat + b.toNat) := rfl
  rw [hc, add8_res, ha, hb, Bool.toNat_false, ← Bool.decide_or, decide_eq_decide]
  omega

theorem daa8_add8_res : (daa8 (add8 a b false).res false (add8 a b false).flags.c
    (add8 a b false).flags.h).res.toNat = (x + y) % 100 / 10 * 16 + (x + y) % 10 := by
  have hr (v : Byte) (c h : Bool) : (daa8 v false c h).res = v + daaCorr v c h := rfl
  rw [hr, BitVec.toNat_add, daaCorr_toNat, add8_low_digit_carry ha hb,
    add8_high_digit_carry ha hb hx hy, add8_res, ha, hb, Bool.toNat_false]
  simp only [decide_eq_true_eq]
  split <;> split <;> omega

end DecimalDigits

/-- DAA writes A and the flags with what `daa8` makes of them (R1421). -/
theorem exec_daa (s : State) : ∃ t, exec .daa s = .next t ∧
    t.regs.a = (daa8 s.regs.a s.flags.n s.flags.c s.flags.h).res ∧
    t.flags = (daa8 s.regs.a s.flags.n s.flags.c s.flags.h).flags :=
  ⟨_, rfl, rfl, State.flags_setFlags _ _⟩

/-- ADD A,n writes A and the flags with what `add8` makes of them (R802). -/
theorem exec_addAN (n : Byte) (s : State) : ∃ t, exec (.addAN n) s = .next t ∧
    t.regs.a = (add8 s.regs.a n false).res ∧ t.flags = (add8 s.regs.a n false).flags := by
  obtain ⟨ha, hf, -⟩ := s.alu_spec .add (.imm n)
  exact ⟨_, rfl, ha, hf⟩

/-- Settles O60: both corrections of DAA are the carries of the decimal addition, digit by digit. -/
theorem daaAddsDecimal : Obligations.DaaAddsDecimal := by
  intro s n x y hx hy ha hn
  obtain ⟨t, ht, hta, htf⟩ := exec_addAN n s
  obtain ⟨u, hu, hua, huf⟩ := exec_daa t
  rw [hta, htf] at hua huf
  refine ⟨t, u, ht, hu, ?_, ?_⟩
  · rw [hua]
    exact daa8_add8_res ha hn hx hy
  · rw [huf]
    exact add8_high_digit_carry ha hn hx hy

end Sys2Proof.Machine
end

section
/-! SUPPORT. The 8-bit load group (41_load8.md): one update of the state, and the clock. -/

namespace Sys2Proof.Machine

open Sys2Proof.Claims

/-! ### An instruction's bytes, and the clock in frames -/

/-- The bytes that the encoder writes for a well-formed instruction are its encoding. -/
theorem hasEncoding_encode {i : Instr} (hw : i.wellFormed = true) : HasEncoding i (encode i) :=
  ⟨rfl, fun rest => decode_encode i rest hw⟩

/-- The clock is in no frame (R225). -/
theorem KeepsAllBut.tick {xs : List Part} {s t : State} (h : KeepsAllBut xs s t) (n : Nat) :
    KeepsAllBut xs s (t.tick n) :=
  (h.trans (keeps_tick t n)).mono (by simp)

/-! ### Loads into a register (R601 to R605, R612 to R614) -/

theorem hasEncoding_loadForm (r : Reg8) (o : Src8) : HasEncoding (loadForm r o) (loadBytes r o) := by
  match o with
  | .imm _ | .loc (.reg _) | .loc .hl | .loc (.ix _) | .loc (.iy _) => exact hasEncoding_encode rfl

/-- The forms of `LD r,s` differ in their T-states only, once the operand is read. -/
theorem exec_loadForm (r : Reg8) (o : Src8) (s : State) :
    ∃ n, exec (loadForm r o) s = .next ((s.setReg r (o.read s)).tick n) := by
  match o with
  | .imm _ | .loc (.reg _) | .loc .hl | .loc (.ix _) | .loc (.iy _) => exact ⟨_, rfl⟩

theorem exec_loadForm_spec (r : Reg8) (o : Src8) (s : State) : ∃ t, exec (loadForm r o) s = .next t ∧
    t.reg r = o.read s ∧ KeepsAllBut [.reg r] s t := by
  obtain ⟨n, hn⟩ := exec_loadForm r o s
  exact ⟨_, hn, s.reg_setReg_same r _, (keeps_setReg s r _).tick n⟩

theorem loadsA_of_exec {i : Instr} {addr : State → Word} (n : Nat) (hw : i.wellFormed = true)
    (hexec : ∀ s, exec i s = .next ((s.setA (s.readMem (addr s))).tick n)) : LoadsA i (encode i) addr :=
  ⟨hasEncoding_encode hw, fun s => ⟨_, hexec s, rfl, (keeps_setA s _).tick n⟩⟩

/-- Settles O23: by `exec_loadForm_spec` for the forms `LD r,s`, by `loadsA_of_exec` for the loads of A. -/
theorem loadRegister : Obligations.LoadRegister :=
  ⟨fun r o => ⟨hasEncoding_loadForm r o, exec_loadForm_spec r o⟩,
    loadsA_of_exec 7 rfl fun _ => rfl,
    loadsA_of_exec 7 rfl fun _ => rfl,
    fun _ => loadsA_of_exec 13 rfl fun _ => rfl⟩

/-! ### Stores (R606 to R611, R615 to R617) -/

theorem stores8_of_exec {i : Instr} {addr : State → Word} {v : State → Byte} (n : Nat)
    (hw : i.wellFormed = true) (hexec : ∀ s, exec i s = .next ((s.writeMem (addr s) (v s)).tick n)) :
    Stores8 i (encode i) addr v :=
  ⟨hasEncoding_encode hw, fun s => ⟨_, hexec s, stores_writeMem s _ _, (keeps_writeMem s _ _).tick n⟩⟩

/-- Settles O24: every store is one `writeMem`; the indexed address is the sum by `indexed_toNat`. -/
theorem storeByte : Obligations.StoreByte :=
  ⟨fun _ => stores8_of_exec 7 rfl fun _ => rfl,
    fun _ _ => stores8_of_exec 19 rfl fun _ => rfl,
    fun _ _ => stores8_of_exec 19 rfl fun _ => rfl,
    fun _ => stores8_of_exec 10 rfl fun _ => rfl,
    fun _ _ => stores8_of_exec 19 rfl fun _ => rfl,
    fun _ _ => stores8_of_exec 19 rfl fun _ => rfl,
    stores8_of_exec 7 rfl fun _ => rfl,
    stores8_of_exec 7 rfl fun _ => rfl,
    fun _ => stores8_of_exec 13 rfl fun _ => rfl,
    fun s d => ⟨indexed_toNat s.ix d, indexed_toNat s.iy d⟩⟩

/-! ### I and R (R618 to R621) -/

theorem keeps_setI (s : State) (v : Byte) : KeepsAllBut [.i] s (s.setI v) := by
  intro p hp
  cases p with
  | i => simp at hp
  | mem | port => exact fun _ => rfl
  | _ => rfl

theorem keeps_setR (s : State) (v : Byte) : KeepsAllBut [.r] s (s.setR v) := by
  intro p hp
  cases p with
  | r => simp at hp
  | mem | port => exact fun _ => rfl
  | _ => rfl

/-- The load of a special register writes A and all of F, of which F5, F3 and C get their old values. -/
theorem keeps_loadSpecial (s : State) (v : Byte) :
    KeepsAllBut [.reg .a, .flagS, .flagZ, .flagH, .flagPV, .flagN] s
      ((s.setA v).setFlags (loadSpecialFlags v s.iff2 s.flags)) :=
  ((keeps_setA s v).trans (keeps_setFlags _ _)).drop
    (by simp [allFlags, Part.same, loadSpecialFlags])

/-- What LD A,I and LD A,R have in common: `v` is the register loaded. -/
theorem loadSpecial_spec {i : Instr} {v : State → Byte} (hw : i.wellFormed = true)
    (hexec : ∀ s, exec i s =
      .next (((s.setA (v s)).setFlags (loadSpecialFlags (v s) s.iff2 s.flags)).tick 9)) :
    HasEncoding i (encode i) ∧ ∀ s, ∃ t, exec i s = .next t ∧ t.reg .a = v s ∧
      t.flags = { s.flags with
        s := (v s).getLsbD 7, z := decide (v s = 0), h := false, pv := s.iff2, n := false } ∧
      KeepsAllBut [.reg .a, .flagS, .flagZ, .flagH, .flagPV, .flagN] s t :=
  ⟨hasEncoding_encode hw, fun s =>
    ⟨_, hexec s, rfl, State.flags_setFlags _ _, (keeps_loadSpecial s (v s)).tick 9⟩⟩

/-- Settles O25: by `loadSpecial_spec` for the loads of A, by the frames of `setI` and `setR` for the others. -/
theorem loadInterruptAndRefresh : Obligations.LoadInterruptAndRefresh :=
  ⟨loadSpecial_spec rfl fun _ => rfl,
    loadSpecial_spec rfl fun _ => rfl,
    ⟨hasEncoding_encode rfl, fun s => ⟨_, rfl, rfl, (keeps_setI s _).tick 9⟩⟩,
    ⟨hasEncoding_encode rfl, fun s => ⟨_, rfl, rfl, (keeps_setR s _).tick 9⟩⟩⟩

end Sys2Proof.Machine
end

section
/-! SUPPORT. The 16-bit load group with PUSH and POP (42_load16.md): one update of a 16-bit register, of a word of
memory or of the stack, and the clock. -/

namespace Sys2Proof.Machine

open Sys2Proof.Claims

/-! ### The 16-bit registers -/

/-- `get` reads and `set` writes one 16-bit register, which is made of the parts `parts`. -/
structure Register16 (get : State → Word) (set : State → Word → State) (parts : List Part) : Prop where
  get_set : ∀ s v, get (set s v) = v
  get_tick : ∀ s n, get (s.tick n) = get s
  keeps : ∀ s v, KeepsAllBut parts s (set s v)

theorem register16_ix : Register16 State.ix State.setIX [.ix] := ⟨State.setIX_ix, State.tick_ix, keeps_setIX⟩

theorem register16_iy : Register16 State.iy State.setIY [.iy] := ⟨State.setIY_iy, State.tick_iy, keeps_setIY⟩

theorem register16_sp : Register16 State.sp State.setSP [.sp] := ⟨State.setSP_sp, State.tick_sp, keeps_setSP⟩

theorem register16_hl : Register16 State.hl State.setHL [.reg .h, .reg .l] :=
  ⟨State.hl_setHL, fun _ _ => rfl, keeps_setHL⟩

theorem keeps_setPairDD (s : State) (dd : PairDD) (v : Word) :
    KeepsAllBut (ddParts dd) s (s.setPairDD dd v) := by
  cases dd with
  | bc => exact keeps_setBC s v
  | de => exact keeps_setDE s v
  | hl => exact keeps_setHL s v
  | sp => exact keeps_setSP s v

theorem register16_pairDD (dd : PairDD) :
    Register16 (fun s => s.pairDD dd) (fun s v => s.setPairDD dd v) (ddParts dd) :=
  ⟨fun s => s.pairDD_setPairDD dd, fun _ _ => by cases dd <;> rfl, fun s => keeps_setPairDD s dd⟩

/-! ### Loads into a 16-bit register (R701 to R707, R712 to R714) -/

theorem sets16_of_exec {i : Instr} {get : State → Word} {set : State → Word → State} {parts : List Part}
    {v : State → Word} (n : Nat) (hr : Register16 get set parts) (hw : i.wellFormed = true)
    (hexec : ∀ s, exec i s = .next ((set s (v s)).tick n)) : Sets16 i (encode i) get parts v :=
  ⟨hasEncoding_encode hw, fun s =>
    ⟨_, hexec s, (hr.get_tick _ n).trans (hr.get_set s _), (hr.keeps s _).tick n⟩⟩

/-- Settles O26: every load is one write of its register. -/
theorem loadWord : Obligations.LoadWord :=
  ⟨fun dd _ => sets16_of_exec 10 (register16_pairDD dd) rfl fun _ => rfl,
    fun _ => sets16_of_exec 14 register16_ix rfl fun _ => rfl,
    fun _ => sets16_of_exec 14 register16_iy rfl fun _ => rfl,
    sets16_of_exec 6 register16_sp rfl fun _ => rfl,
    sets16_of_exec 10 register16_sp rfl fun _ => rfl,
    sets16_of_exec 10 register16_sp rfl fun _ => rfl⟩

/-- Settles O27: every load is one write of its register, of the word that `readMem16` reads. -/
theorem loadWordFromMemory : Obligations.LoadWordFromMemory := fun _ =>
  ⟨sets16_of_exec 16 register16_hl rfl fun _ => rfl,
    fun dd => sets16_of_exec 20 (register16_pairDD dd) rfl fun _ => rfl,
    sets16_of_exec 20 register16_ix rfl fun _ => rfl,
    sets16_of_exec 20 register16_iy rfl fun _ => rfl⟩

/-! ### Stores of a word (R708 to R711) -/

theorem stores16_of_exec {i : Instr} {addr : Word} {v : State → Word} (n : Nat) (hw : i.wellFormed = true)
    (hexec : ∀ s, exec i s = .next ((s.writeMem16 addr (v s)).tick n)) : Stores16 i (encode i) addr v :=
  ⟨hasEncoding_encode hw, fun s =>
    ⟨_, hexec s, stores_writeMem16 s _ _, (keeps_writeMem16 s _ _).tick n⟩⟩

/-- Settles O28: every store is one `writeMem16`. -/
theorem storeWord : Obligations.StoreWord := fun _ =>
  ⟨stores16_of_exec 16 rfl fun _ => rfl,
    fun _ => stores16_of_exec 20 rfl fun _ => rfl,
    stores16_of_exec 20 rfl fun _ => rfl,
    stores16_of_exec 20 rfl fun _ => rfl⟩

/-! ### PUSH (R715 to R717) -/

theorem pushesReg_of_exec {i : Instr} {v : State → Word} (n : Nat) (hw : i.wellFormed = true)
    (hexec : ∀ s, exec i s = .next ((s.push16 (v s)).tick n)) : PushesReg i (encode i) v := by
  refine ⟨hasEncoding_encode hw, fun s => ?_⟩
  obtain ⟨-, -, hk⟩ := s.push16_spec (v s)
  exact ⟨_, hexec s, s.push16_pushes _, hk.tick n⟩

/-- Settles O29: every push is one `push16`. -/
theorem pushStoresWord : Obligations.PushStoresWord :=
  ⟨fun qq => ⟨hasEncoding_encode rfl, exec_pushQq_spec qq⟩,
    pushesReg_of_exec 15 rfl fun _ => rfl,
    pushesReg_of_exec 15 rfl fun _ => rfl⟩

/-! ### POP (R718 to R720) -/

/-- A pop moves SP and then writes its register, which leaves SP there. -/
theorem popsReg_of_exec {i : Instr} {get : State → Word} {set : State → Word → State} {parts : List Part}
    (n : Nat) (hr : Register16 get set parts) (hsp : .sp ∉ parts) (hw : i.wellFormed = true)
    (hexec : ∀ s, exec i s = .next ((set s.dropTop s.stackTop).tick n)) :
    PopsReg i (encode i) get parts := by
  refine ⟨hasEncoding_encode hw, fun s => ⟨_, hexec s, ?_, ?_, ?_⟩⟩
  · exact (hr.get_tick _ n).trans (hr.get_set s.dropTop s.stackTop)
  · exact hr.keeps s.dropTop s.stackTop .sp hsp
  · exact ((keeps_setSP s _).trans (hr.keeps s.dropTop s.stackTop)).tick n

/-- Settles O30: by `exec_popQq_spec` for the pairs, by `popsReg_of_exec` for IX and IY. -/
theorem popLoadsWord : Obligations.PopLoadsWord :=
  ⟨fun qq => ⟨hasEncoding_encode rfl, exec_popQq_spec qq⟩,
    popsReg_of_exec 14 register16_ix (by decide) rfl fun _ => rfl,
    popsReg_of_exec 14 register16_iy (by decide) rfl fun _ => rfl⟩

end Sys2Proof.Machine
end

section
/-! SUPPORT. The 8-bit arithmetic and logic group (43_arith8.md): the ALU functions said about the integers,
and one lemma for the forms of `op A,s`, one for the forms of INC and of DEC. -/

namespace Sys2Proof.Machine

open Sys2Proof.Claims

/-! ### The ALU functions, said about the integers (R502, R503, R510 to R516) -/

theorem sz53_with (res : Byte) (h pv n c : Bool) :
    { sz53 res with h := h, pv := pv, n := n, c := c } = resultFlags res h pv n c := by
  have hz : (res == 0) = decide (res.toNat = 0) := decide_eq_decide.mpr BitVec.toNat_inj.symm
  rw [resultFlags, ← hz]
  rfl

/-- Counting the 1 bits and taking their exclusive or tell the same parity. -/
theorem parity_eq_evenOnes (v : Byte) : parity v = evenOnes v := by
  revert v
  decide

theorem add8_isSum8 (a b : Byte) (cin : Bool) :
    IsSum8 a b cin.toNat (add8 a b cin).res (add8 a b cin).flags := by
  refine ⟨add8_res a b cin, ?_⟩
  rw [← add8_h, ← add8_pv]
  exact sz53_with _ _ _ _ _

theorem sub8_isDiff8 (a b : Byte) (cin : Bool) :
    IsDiff8 a b cin.toNat (sub8 a b cin).res (sub8 a b cin).flags := by
  have hc : (sub8 a b cin).flags.c = decide (a.toNat < b.toNat + cin.toNat) :=
    decide_eq_decide.mpr (by omega)
  refine ⟨sub8_res a b cin, ?_⟩
  rw [← sub8_h, ← sub8_pv, ← hc]
  exact sz53_with _ _ _ _ _

/-- A logical operation's result with its flags: H as given, even parity in PV, N and C reset. -/
def logicResult (res : Byte) (h : Bool) : AluResult :=
  ⟨res, resultFlags res h (evenOnes res) false false⟩

theorem sz53_logic (res : Byte) (h : Bool) :
    ⟨res, { sz53 res with h := h, pv := parity res, n := false, c := false }⟩ = logicResult res h := by
  rw [sz53_with, parity_eq_evenOnes, logicResult]

theorem and8_eq (a b : Byte) : and8 a b = logicResult (a &&& b) true := sz53_logic _ _

theorem or8_eq (a b : Byte) : or8 a b = logicResult (a ||| b) false := sz53_logic _ _

theorem xor8_eq (a b : Byte) : xor8 a b = logicResult (a ^^^ b) false := sz53_logic _ _

/-! ### The forms of `op A,s` (R801 to R840) -/

theorem hasEncoding_aluForm (op : AluOp) (o : Src8) : HasEncoding (aluForm op o) (aluBytes op o) := by
  match o with
  | .imm _ | .loc (.reg _) | .loc .hl | .loc (.ix _) | .loc (.iy _) =>
    cases op <;> exact hasEncoding_encode rfl

/-- The forms of `op A,s` differ in their T-states only, once the operand is read. -/
theorem exec_aluForm (op : AluOp) (o : Src8) (s : State) :
    ∃ n, exec (aluForm op o) s = .next ((s.alu op o).tick n) := by
  match o with
  | .imm _ | .loc (.reg _) | .loc .hl | .loc (.ix _) | .loc (.iy _) => cases op <;> exact ⟨_, rfl⟩

theorem exec_aluForm_of_writesA {op : AluOp} (hop : op.writesA = true) (o : Src8) (s : State) :
    ∃ t, exec (aluForm op o) s = .next t ∧
      t.regs.a = (op.compute s.regs.a (o.read s) s.flags.c).res ∧
      t.flags = (op.compute s.regs.a (o.read s) s.flags.c).flags ∧
      KeepsAllBut (.reg .a :: allFlags) s t := by
  obtain ⟨n, hn⟩ := exec_aluForm op o s
  obtain ⟨ha, hf, hk⟩ := s.alu_spec op o
  rw [if_pos hop] at ha hk
  exact ⟨_, hn, ha, hf, hk.tick n⟩

/-- An operation that writes A leaves the result and the flags that its function gives, whatever `R` says of
them. -/
theorem aluForm_spec {op : AluOp} (hop : op.writesA = true) (o : Src8) (R : State → Byte → Flags → Prop)
    (hR : ∀ s, R s (op.compute s.regs.a (o.read s) s.flags.c).res
      (op.compute s.regs.a (o.read s) s.flags.c).flags) :
    HasEncoding (aluForm op o) (aluBytes op o) ∧ ∀ s, ∃ t, exec (aluForm op o) s = .next t ∧
      R s t.regs.a t.flags ∧ KeepsAllBut (.reg .a :: allFlags) s t := by
  refine ⟨hasEncoding_aluForm op o, fun s => ?_⟩
  obtain ⟨t, ht, ha, hf, hk⟩ := exec_aluForm_of_writesA hop o s
  exact ⟨t, ht, ha ▸ hf ▸ hR s, hk⟩

/-- AND, OR and XOR, of which `f` is the bitwise operation. -/
theorem logicForm_spec (op : AluOp) (f : Byte → Byte → Byte) (h : Bool) (hop : op.writesA = true)
    (hf : ∀ a v c, op.compute a v c = logicResult (f a v) h) (o : Src8) :
    HasEncoding (aluForm op o) (aluBytes op o) ∧ ∀ s, ∃ t, exec (aluForm op o) s = .next t ∧
      t.regs.a = f s.regs.a (o.read s) ∧
      t.flags = resultFlags t.regs.a h (evenOnes t.regs.a) false false ∧
      KeepsAllBut (.reg .a :: allFlags) s t := by
  refine ⟨hasEncoding_aluForm op o, fun s => ?_⟩
  obtain ⟨t, ht, ha, hfl, hk⟩ := exec_aluForm_of_writesA hop o s
  rw [hf] at ha hfl
  exact ⟨t, ht, ha, ha ▸ hfl, hk⟩

/-- CP is SUB that leaves A (R517). -/
theorem cpForm_spec (o : Src8) (s : State) : ∃ t res, exec (aluForm .cp o) s = .next t ∧
    IsDiff8 s.regs.a (o.read s) 0 res t.flags ∧ KeepsAllBut allFlags s t := by
  obtain ⟨n, hn⟩ := exec_aluForm .cp o s
  obtain ⟨-, hf, hk⟩ := s.alu_spec .cp o
  exact ⟨_, _, hn, hf ▸ sub8_isDiff8 s.regs.a (o.read s) false, hk.tick n⟩

/-- Settles O32: both operations are `add8`, ADC with the carry flag, and `add8_isSum8` says what it gives. -/
theorem addAdcAccumulator : Obligations.AddAdcAccumulator := fun o =>
  ⟨aluForm_spec rfl o (fun s => IsSum8 s.regs.a (o.read s) 0) fun _ => add8_isSum8 _ _ false,
    aluForm_spec rfl o (fun s => IsSum8 s.regs.a (o.read s) s.flags.c.toNat) fun s =>
      add8_isSum8 _ _ s.flags.c⟩

/-- Settles O33: both operations are `sub8`, SBC with the carry flag, and `sub8_isDiff8` says what it gives. -/
theorem subSbcAccumulator : Obligations.SubSbcAccumulator := fun o =>
  ⟨aluForm_spec rfl o (fun s => IsDiff8 s.regs.a (o.read s) 0) fun _ => sub8_isDiff8 _ _ false,
    aluForm_spec rfl o (fun s => IsDiff8 s.regs.a (o.read s) s.flags.c.toNat) fun s =>
      sub8_isDiff8 _ _ s.flags.c⟩

/-- Settles O34: by `logicForm_spec`. -/
theorem andOrAccumulator : Obligations.AndOrAccumulator := fun o =>
  ⟨logicForm_spec .and (· &&& ·) true rfl (fun a v _ => and8_eq a v) o,
    logicForm_spec .or (· ||| ·) false rfl (fun a v _ => or8_eq a v) o⟩

/-- Settles O35: XOR by `logicForm_spec`, CP by `cpForm_spec`. -/
theorem xorCpAccumulator : Obligations.XorCpAccumulator := fun o =>
  ⟨logicForm_spec .xor (· ^^^ ·) false rfl (fun a v _ => xor8_eq a v) o,
    hasEncoding_aluForm .cp o, cpForm_spec o⟩

/-! ### INC m and DEC m (R841 to R848) -/

/-- Adding one carries out of the low nibble from 15 only, and overflows from 127 only. -/
theorem inc8_flags (v : Byte) (c : Bool) : (inc8 v c).flags =
    resultFlags (v + 1) (decide (v.toNat % 16 = 15)) (decide (v = 0x7F)) false c := by
  have hres : (add8 v 1 false).res = v + 1 := by
    simp only [add8, Bool.toNat_false]
    bv_omega
  have hh : (add8 v 1 false).flags.h = decide (v.toNat % 16 = 15) := by
    rw [add8_h, decide_eq_decide, Bool.toNat_false]
    bv_omega
  have hpv : (add8 v 1 false).flags.pv = decide (v = 0x7F) := by
    rw [add8_pv, decide_eq_decide, Byte.toInt_eq, Bool.toNat_false]
    have h1 : (1 : Byte).toInt = 1 := rfl
    split <;> bv_omega
  rw [← hres, ← hh, ← hpv]
  exact sz53_with _ _ _ _ _

/-- Subtracting one borrows into the low nibble from 0 only, and overflows from -128 only. -/
theorem dec8_flags (v : Byte) (c : Bool) : (dec8 v c).flags =
    resultFlags (v - 1) (decide (v.toNat % 16 = 0)) (decide (v = 0x80)) true c := by
  have hres : (sub8 v 1 false).res = v - 1 := by
    simp only [sub8, Bool.toNat_false]
    bv_omega
  have hh : (sub8 v 1 false).flags.h = decide (v.toNat % 16 = 0) := by
    rw [sub8_h, decide_eq_decide, Bool.toNat_false]
    bv_omega
  have hpv : (sub8 v 1 false).flags.pv = decide (v = 0x80) := by
    rw [sub8_pv, decide_eq_decide, Byte.toInt_eq, Bool.toNat_false]
    have h1 : (1 : Byte).toInt = 1 := rfl
    split <;> bv_omega
  rw [← hres, ← hh, ← hpv]
  exact sz53_with _ _ _ _ _

theorem hasEncoding_incForm (l : Loc8) : HasEncoding (incForm l) (incDecBytes 4 l) := by
  cases l with
  | reg r => cases r <;> exact hasEncoding_encode rfl
  | _ => exact hasEncoding_encode rfl

theorem hasEncoding_decForm (l : Loc8) : HasEncoding (decForm l) (incDecBytes 5 l) := by
  cases l with
  | reg r => cases r <;> exact hasEncoding_encode rfl
  | _ => exact hasEncoding_encode rfl

/-- The forms of INC m differ in their T-states only. -/
theorem exec_incForm (l : Loc8) (s : State) : ∃ n, exec (incForm l) s = .next ((s.incLoc l).tick n) := by
  cases l <;> exact ⟨_, rfl⟩

/-- The forms of DEC m differ in their T-states only. -/
theorem exec_decForm (l : Loc8) (s : State) : ∃ n, exec (decForm l) s = .next ((s.decLoc l).tick n) := by
  cases l <;> exact ⟨_, rfl⟩

theorem WritesLoc.tick {l : Loc8} {v : Byte} {s t : State} (h : WritesLoc l v s t) (n : Nat) :
    WritesLoc l v s (t.tick n) := by
  cases l <;> exact h

/-- Settles O36: by `State.incLoc_spec` and `State.decLoc_spec`, with the flags of `inc8` and `dec8`. -/
theorem incDecByte : Obligations.IncDecByte := by
  refine fun l => ⟨⟨hasEncoding_incForm l, fun s => ?_⟩, hasEncoding_decForm l, fun s => ?_⟩
  · obtain ⟨n, hn⟩ := exec_incForm l s
    obtain ⟨hw, hf, hk⟩ := s.incLoc_spec l
    exact ⟨_, _, hn, rfl, hw.tick n, hf.trans (inc8_flags _ _), hk.tick n⟩
  · obtain ⟨n, hn⟩ := exec_decForm l s
    obtain ⟨hw, hf, hk⟩ := s.decLoc_spec l
    exact ⟨_, _, hn, rfl, hw.tick n, hf.trans (dec8_flags _ _), hk.tick n⟩

end Sys2Proof.Machine
end

section
/-! SUPPORT. The 16-bit arithmetic group (44_arith16.md): the ALU functions said about the integers, and one
lemma for an operation that writes its result and flags. INC and DEC are single writes of a 16-bit register. -/

namespace Sys2Proof.Machine

open Sys2Proof.Claims

/-! ### The ALU functions, said about the integers (R540 to R542) -/

theorem add16_res (a b : Word) (old : Flags) :
    (add16 a b old).res.toNat = (a.toNat + b.toNat) % 65536 := by
  simp [add16]

theorem add16_flags (a b : Word) (old : Flags) : (add16 a b old).flags =
    { old with
      h := decide (4096 ≤ a.toNat % 4096 + b.toNat % 4096), n := false,
      c := decide (65536 ≤ a.toNat + b.toNat) } := by
  rw [← add16_h a b old]
  rfl

/-- The flags of ADC and SBC: S and Z of the result, F5 and F3 as they were (R541, R542). -/
def resultFlags16 (old : Flags) (res : Word) (h pv n c : Bool) : Flags :=
  { old with s := res.getLsbD 15, z := decide (res.toNat = 0), h := h, pv := pv, n := n, c := c }

theorem Word.beq_zero_eq_decide (res : Word) : (res == 0) = decide (res.toNat = 0) :=
  decide_eq_decide.mpr BitVec.toNat_inj.symm

theorem adc16_flags (a b : Word) (old : Flags) : (adc16 a b old).flags =
    resultFlags16 old (adc16 a b old).res
      (decide (4096 ≤ a.toNat % 4096 + b.toNat % 4096 + old.c.toNat))
      (decide (a.toInt + b.toInt + old.c.toNat < -32768 ∨ 32767 < a.toInt + b.toInt + old.c.toNat))
      false (decide (65536 ≤ a.toNat + b.toNat + old.c.toNat)) := by
  rw [resultFlags16, ← adc16_h, ← adc16_pv, ← Word.beq_zero_eq_decide]
  rfl

theorem sbc16_flags (a b : Word) (old : Flags) : (sbc16 a b old).flags =
    resultFlags16 old (sbc16 a b old).res
      (decide (a.toNat % 4096 < b.toNat % 4096 + old.c.toNat))
      (decide (a.toInt - b.toInt - old.c.toNat < -32768 ∨ 32767 < a.toInt - b.toInt - old.c.toNat))
      true (decide (a.toNat < b.toNat + old.c.toNat)) := by
  have hc : (sbc16 a b old).flags.c = decide (a.toNat < b.toNat + old.c.toNat) :=
    decide_eq_decide.mpr (by omega)
  rw [resultFlags16, ← sbc16_h, ← sbc16_pv, ← Word.beq_zero_eq_decide, ← hc]
  rfl

/-! ### An operation that writes its result and flags (R901 to R905) -/

/-- The operation's result is in its register, its flags are in F, and the rest is as before. -/
theorem exec_alu16 {i : Instr} {s : State} {get : State → Word} {set : State → Word → State}
    {parts : List Part} {r : AluResult16} {n : Nat} (hr : Register16 get set parts)
    (hget : ∀ (u : State) fl, get (u.setFlags fl) = get u)
    (hexec : exec i s = .next (((set s r.res).setFlags r.flags).tick n)) :
    ∃ t, exec i s = .next t ∧ get t = r.res ∧ t.flags = r.flags ∧ KeepsAllBut (parts ++ allFlags) s t :=
  ⟨_, hexec, (hr.get_tick _ n).trans ((hget _ _).trans (hr.get_set s _)), State.flags_setFlags _ _,
    ((hr.keeps s _).trans (keeps_setFlags _ _)).tick n⟩

/-- An addition into the register that `get` reads. -/
theorem addWord_of_exec {i : Instr} {get v : State → Word} {set : State → Word → State} {parts : List Part}
    (n : Nat) (hr : Register16 get set parts) (hget : ∀ (u : State) fl, get (u.setFlags fl) = get u)
    (hw : i.wellFormed = true)
    (hexec : ∀ s, exec i s = .next (((set s (add16 (get s) (v s) s.flags).res).setFlags
      (add16 (get s) (v s) s.flags).flags).tick n)) :
    HasEncoding i (encode i) ∧ ∀ s, ∃ t, exec i s = .next t ∧
      (get t).toNat = ((get s).toNat + (v s).toNat) % 65536 ∧
      t.flags = { s.flags with
        h := decide (4096 ≤ (get s).toNat % 4096 + (v s).toNat % 4096), n := false,
        c := decide (65536 ≤ (get s).toNat + (v s).toNat) } ∧
      KeepsAllBut (parts ++ [.flagH, .flagN, .flagC]) s t := by
  refine ⟨hasEncoding_encode hw, fun s => ?_⟩
  obtain ⟨t, ht, hres, hflags, hk⟩ := exec_alu16 hr hget (hexec s)
  rw [add16_flags] at hflags
  refine ⟨t, ht, hres ▸ add16_res _ _ _, hflags,
    hk.drop (List.forall_mem_append.mpr ⟨fun p hp => .inr (List.mem_append_left _ hp), ?_⟩)⟩
  simp [allFlags, Part.same, hflags]

/-- Settles O37: every addition is one `add16`. -/
theorem addWord : Obligations.AddWord :=
  ⟨fun _ => addWord_of_exec 11 register16_hl (fun _ _ => rfl) rfl fun _ => rfl,
    fun _ => addWord_of_exec 15 register16_ix (fun _ _ => rfl) rfl fun _ => rfl,
    fun _ => addWord_of_exec 15 register16_iy (fun _ _ => rfl) rfl fun _ => rfl⟩

/-- ADC HL,ss and SBC HL,ss: `r` is the result of the operation. -/
theorem carryWord_spec (i : Instr) {s : State} {r : AluResult16} {h pv n c : Bool}
    (hexec : exec i s = .next (((s.setHL r.res).setFlags r.flags).tick 15))
    (hr : r.flags = resultFlags16 s.flags r.res h pv n c) :
    ∃ t, exec i s = .next t ∧ t.hl = r.res ∧ t.flags = resultFlags16 s.flags t.hl h pv n c ∧
      KeepsAllBut [.reg .h, .reg .l, .flagS, .flagZ, .flagH, .flagPV, .flagN, .flagC] s t := by
  obtain ⟨t, ht, hres, hflags, hk⟩ := exec_alu16 register16_hl (fun _ _ => rfl) hexec
  rw [hr] at hflags
  refine ⟨t, ht, hres, hres ▸ hflags, hk.drop ?_⟩
  simp [allFlags, Part.same, hflags, resultFlags16]

/-- Settles O38: the operations are `adc16` and `sbc16`, and `carryWord_spec` says what an operation leaves. -/
theorem adcSbcWord : Obligations.AdcSbcWord := by
  refine fun ss => ⟨⟨hasEncoding_encode rfl, fun s => ?_⟩, hasEncoding_encode rfl, fun s => ?_⟩
  · obtain ⟨t, ht, hres, hflags, hk⟩ := carryWord_spec (.adcHlSs ss) rfl (adc16_flags s.hl (s.pairDD ss) s.flags)
    exact ⟨t, ht, hres ▸ adc16_res _ _ _, hflags, hk⟩
  · obtain ⟨t, ht, hres, hflags, hk⟩ := carryWord_spec (.sbcHlSs ss) rfl (sbc16_flags s.hl (s.pairDD ss) s.flags)
    exact ⟨t, ht, hres ▸ sbc16_res _ _ _, hflags, hk⟩

/-! ### INC and DEC of a 16-bit register (R906 to R911) -/

/-- Settles O39: every one is one write of its register. -/
theorem incDecWord : Obligations.IncDecWord :=
  ⟨fun ss => sets16_of_exec 6 (register16_pairDD ss) rfl fun _ => rfl,
    sets16_of_exec 10 register16_ix rfl fun _ => rfl,
    sets16_of_exec 10 register16_iy rfl fun _ => rfl,
    fun ss => sets16_of_exec 6 (register16_pairDD ss) rfl fun _ => rfl,
    sets16_of_exec 10 register16_ix rfl fun _ => rfl,
    sets16_of_exec 10 register16_iy rfl fun _ => rfl⟩

end Sys2Proof.Machine
end

section
/-! SUPPORT. The exchange, block transfer and block search group (45_exchange_block_search.md): an exchange is one
update of the pairs it names, an element of a block instruction is its effect and then a choice of PC. -/

namespace Sys2Proof.Machine

open Sys2Proof.Claims

/-! ### Exchanges between registers (R1000 to R1002) -/

/-- The exchanges with the shadow set write the main set first, then the shadow set. -/
theorem keeps_setRegSets_regs (s : State) (shadow : RegSet) :
    KeepsAllBut [.shadow] s (s.setRegSets s.regs shadow) := by
  intro p hp
  cases p with
  | shadow => simp at hp
  | mem | port => exact fun _ => rfl
  | _ => rfl

theorem exDeHl_spec (s : State) : ∃ t u, exec .exDeHl s = .next t ∧ t.de = s.hl ∧ t.hl = s.de ∧
    KeepsAllBut [.reg .d, .reg .e, .reg .h, .reg .l] s t ∧ exec .exDeHl t = .next u ∧ u.regs = s.regs := by
  refine ⟨_, _, rfl, joinBytes_hi_lo _, joinBytes_hi_lo _, ?_, rfl, ?_⟩
  · exact ((keeps_setDE s s.hl).trans (keeps_setHL _ s.de)).tick 4
  · simp [State.de, State.hl, RegSet.de, RegSet.hl, RegSet.setDE, RegSet.setHL]

theorem exAfAf_spec (s : State) : ∃ t u, exec .exAfAf s = .next t ∧
    t.af = s.shadow.af ∧ t.shadow.af = s.regs.af ∧ t.shadow.bc = s.shadow.bc ∧
    t.shadow.de = s.shadow.de ∧ t.shadow.hl = s.shadow.hl ∧ KeepsAllBut (.reg .a :: .shadow :: allFlags) s t ∧
    exec .exAfAf t = .next u ∧ u.regs = s.regs ∧ u.shadow = s.shadow := by
  refine ⟨_, _, rfl, joinBytes_hi_lo _, joinBytes_hi_lo _, rfl, rfl, rfl, ?_, rfl, ?_⟩
  · have hk := (keeps_setPairQQ s .af s.shadow.af).trans (keeps_setRegSets_regs _ (s.shadow.setAF s.regs.af))
    exact (hk.tick 4).mono (by decide)
  · constructor <;> simp [RegSet.af, RegSet.setAF]

theorem exx_spec (s : State) : ∃ t u, exec .exx s = .next t ∧
    t.bc = s.shadow.bc ∧ t.de = s.shadow.de ∧ t.hl = s.shadow.hl ∧
    t.shadow.bc = s.regs.bc ∧ t.shadow.de = s.regs.de ∧ t.shadow.hl = s.regs.hl ∧ t.shadow.af = s.shadow.af ∧
    KeepsAllBut [.reg .b, .reg .c, .reg .d, .reg .e, .reg .h, .reg .l, .shadow] s t ∧
    exec .exx t = .next u ∧ u.regs = s.regs ∧ u.shadow = s.shadow := by
  refine ⟨_, _, rfl, joinBytes_hi_lo _, joinBytes_hi_lo _, joinBytes_hi_lo _, joinBytes_hi_lo _,
    joinBytes_hi_lo _, joinBytes_hi_lo _, rfl, ?_, rfl, ?_⟩
  · have hpairs := ((keeps_setBC s s.shadow.bc).trans (keeps_setDE _ s.shadow.de)).trans
      (keeps_setHL _ s.shadow.hl)
    exact (hpairs.trans (keeps_setRegSets_regs _ _)).tick 4
  · constructor <;> simp [RegSet.bc, RegSet.de, RegSet.hl, RegSet.setBC, RegSet.setDE, RegSet.setHL]

/-- Settles O40: a pair written holds the word written, so a second exchange puts the first words back. -/
theorem exchangeRegisters : Obligations.ExchangeRegisters :=
  ⟨⟨hasEncoding_encode rfl, exDeHl_spec⟩, ⟨hasEncoding_encode rfl, exAfAf_spec⟩,
    hasEncoding_encode rfl, exx_spec⟩

/-! ### Exchanges with the top of the stack (R1003 to R1005) -/

/-- The word stored is the old register and the word loaded the old top: the store reaches neither. The register
written last is not in memory, so the stored bytes stand. -/
theorem exchangesTop_of_exec {i : Instr} {get : State → Word} {set : State → Word → State} {parts : List Part}
    (n : Nat) (hr : Register16 get set parts) (hmem : .mem ∉ parts) (hw : i.wellFormed = true)
    (hexec : ∀ s, exec i s = .next ((set (s.writeMem16 s.sp (get s)) (s.readMem16 s.sp)).tick n)) :
    HasEncoding i (encode i) ∧ ∀ s, ∃ t, exec i s = .next t ∧ get t = popped s ∧ StoresWord s.sp (get s) s t ∧
      KeepsAllBut (.mem :: parts) s t := by
  refine ⟨hasEncoding_encode hw, fun s => ⟨_, hexec s, ?_, ?_, ?_⟩⟩
  · exact (hr.get_tick _ n).trans (hr.get_set _ _)
  · have hstored := stores_writeMem16 s s.sp (get s)
    have hset : ∀ x, ((set (s.writeMem16 s.sp (get s)) (s.readMem16 s.sp)).tick n).readMem x =
      (s.writeMem16 s.sp (get s)).readMem x := hr.keeps _ _ .mem hmem
    simpa only [StoresWord, ← hset] using hstored
  · exact ((keeps_writeMem16 s _ _).trans (hr.keeps _ _)).tick n

/-- Settles O41: every one is a store of the old register at SP, then a load of the old top. -/
theorem exchangeStackTop : Obligations.ExchangeStackTop :=
  ⟨exchangesTop_of_exec 19 register16_hl (by decide) rfl fun _ => rfl,
    exchangesTop_of_exec 23 register16_ix (by decide) rfl fun _ => rfl,
    exchangesTop_of_exec 23 register16_iy (by decide) rfl fun _ => rfl⟩

/-! ### One element of a block instruction (R1010 to R1012) -/

/-- Repeating or not, an element ends in a write of PC and the clock. -/
theorem State.repeatIf_eq_setPC (s : State) (again : Bool) :
    ∃ n, s.repeatIf again = (s.setPC (if again then s.pc - 2 else s.pc)).tick n := by
  cases again with
  | false => exact ⟨16, rfl⟩
  | true => exact ⟨21, rfl⟩

theorem Cursor.move_up (v : Word) : Cursor.up.move v = v + 1 := rfl

theorem Cursor.move_down (v : Word) : Cursor.down.move v = v + -1 := sub_eq_add_neg v 1

/-- BC is 0 after the decrement exactly if it was 1 before. -/
theorem Word.sub_one_bne_zero (v : Word) : (v - 1 != 0) = decide (v ≠ 1) := by
  rw [Bool.eq_iff_iff, bne_iff_ne, decide_eq_true_iff, sub_ne_zero]

/-! ### Block transfer (R1013 to R1016) -/

theorem blockMoveFlags_sub_one (bc : Word) (old : Flags) :
    blockMoveFlags (bc - 1) old = { old with h := false, pv := decide (bc ≠ 1), n := false } := by
  rw [blockMoveFlags, Word.sub_one_bne_zero]

theorem keeps_blockMove (s : State) (k : Cursor) :
    KeepsAllBut [.mem, .reg .h, .reg .l, .reg .d, .reg .e, .reg .b, .reg .c, .flagH, .flagPV, .flagN] s
      (s.blockMove k) := by
  obtain ⟨-, -, -, -, hflags, hk⟩ := s.blockMove_spec k
  exact hk.drop (by simp [allFlags, Part.same, hflags, blockMoveFlags])

/-- The non-repeating forms are those that never repeat: `repeatIf false` is their clock. -/
theorem movesBlock_of_exec {i : Instr} {op : Byte} {k : Cursor} {delta : Word} {repeats : Bool}
    (henc : HasEncoding i [0xED, op]) (hmove : ∀ v, k.move v = v + delta)
    (hexec : ∀ s, exec i s = .next ((s.blockMove k).repeatIf (repeats && (s.blockMove k).bc != 0))) :
    MovesBlock i op delta repeats := by
  refine ⟨henc, fun s => ?_⟩
  obtain ⟨hmem, hhl, hde, hbc, hflags, -⟩ := s.blockMove_spec k
  have hk := keeps_blockMove s k
  obtain ⟨n, hn⟩ := (s.blockMove k).repeatIf_eq_setPC (repeats && (s.blockMove k).bc != 0)
  have hpc : (s.blockMove k).pc = s.pc := hk .pc (by decide)
  rw [blockMoveFlags_sub_one] at hflags
  refine ⟨_, (hexec s).trans (congrArg _ hn), hmem, hhl.trans (hmove _), hde.trans (hmove _), hbc, hflags, ?_, ?_⟩
  · simp only [State.tick_pc, State.setPC_pc, hpc, hbc, Word.sub_one_bne_zero, Bool.and_eq_true, decide_eq_true_iff]
  · exact (hk.trans (keeps_setPC _ _)).tick n

/-- Settles O42: every form is `blockMove`, up or down, and a choice of PC. -/
theorem blockTransfer : Obligations.BlockTransfer :=
  ⟨movesBlock_of_exec (hasEncoding_encode rfl) Cursor.move_up fun _ => rfl,
    movesBlock_of_exec (hasEncoding_encode rfl) Cursor.move_up fun _ => rfl,
    movesBlock_of_exec (hasEncoding_encode rfl) Cursor.move_down fun _ => rfl,
    movesBlock_of_exec (hasEncoding_encode rfl) Cursor.move_down fun _ => rfl⟩

/-! ### Block search (R1017 to R1020) -/

theorem blockSearchFlags_sub_one (cmp : Flags) (bc : Word) (old : Flags) : blockSearchFlags cmp (bc - 1) old =
    { old with s := cmp.s, z := cmp.z, h := cmp.h, pv := decide (bc ≠ 1), n := true } := by
  rw [blockSearchFlags, Word.sub_one_bne_zero]

theorem keeps_blockSearch (s : State) (k : Cursor) :
    KeepsAllBut [.reg .h, .reg .l, .reg .b, .reg .c, .flagS, .flagZ, .flagH, .flagPV, .flagN] s
      (s.blockSearch k) := by
  obtain ⟨-, -, hflags, hk⟩ := s.blockSearch_spec k
  exact hk.drop (by simp [allFlags, Part.same, hflags, blockSearchFlags])

/-- As for the transfers; a search also stops at the byte it looks for. -/
theorem searchesBlock_of_exec {i : Instr} {op : Byte} {k : Cursor} {delta : Word} {repeats : Bool}
    (henc : HasEncoding i [0xED, op]) (hmove : ∀ v, k.move v = v + delta)
    (hexec : ∀ s, exec i s = .next ((s.blockSearch k).repeatIf
      (repeats && ((s.blockSearch k).bc != 0 && s.regs.a != s.readMem s.hl)))) :
    SearchesBlock i op delta repeats := by
  refine ⟨henc, fun s => ?_⟩
  obtain ⟨hhl, hbc, hflags, -⟩ := s.blockSearch_spec k
  have hk := keeps_blockSearch s k
  obtain ⟨n, hn⟩ := (s.blockSearch k).repeatIf_eq_setPC
    (repeats && ((s.blockSearch k).bc != 0 && s.regs.a != s.readMem s.hl))
  have hpc : (s.blockSearch k).pc = s.pc := hk .pc (by decide)
  have hcmp := sub8_isDiff8 s.regs.a (s.readMem s.hl) false
  rw [blockSearchFlags_sub_one] at hflags
  refine ⟨_, _, _, (hexec s).trans (congrArg _ hn), hcmp, hhl.trans (hmove _), hbc, hflags, ?_, ?_⟩
  · simp only [State.tick_pc, State.setPC_pc, hpc, hbc, Word.sub_one_bne_zero, Bool.and_eq_true, decide_eq_true_iff,
      bne_iff_ne]
  · exact (hk.trans (keeps_setPC _ _)).tick n

/-- Settles O43: every form is `blockSearch`, up or down, and a choice of PC. -/
theorem blockSearch : Obligations.BlockSearch :=
  ⟨searchesBlock_of_exec (hasEncoding_encode rfl) Cursor.move_up fun _ => rfl,
    searchesBlock_of_exec (hasEncoding_encode rfl) Cursor.move_up fun _ => rfl,
    searchesBlock_of_exec (hasEncoding_encode rfl) Cursor.move_down fun _ => rfl,
    searchesBlock_of_exec (hasEncoding_encode rfl) Cursor.move_down fun _ => rfl⟩

end Sys2Proof.Machine
end

section
/-! SUPPORT. The rotate and shift group (46_rotate_shift.md): R520's table said about numbers, which serves the
rotates of A and the forms of m alike, and the digits of RLD and RRD as two permutations that undo each other. -/

namespace Sys2Proof.Machine

open Sys2Proof.Claims

/-! ### R520's table, said about numbers -/

/-- The result column of R520's table: `v` is the byte and `c` the old carry, as numbers. -/
def RotOp.resultNat : RotOp → Nat → Nat → Nat
  | .rlc => fun v _ => (2 * v + v / 128) % 256
  | .rrc => fun v _ => v / 2 + 128 * (v % 2)
  | .rl => fun v c => (2 * v + c) % 256
  | .rr => fun v c => v / 2 + 128 * c
  | .sla => fun v _ => 2 * v % 256
  | .sra => fun v _ => v / 2 + 128 * (v / 128)
  | .srl => fun v _ => v / 2

/-- The carry column of R520's table; no operation of the group passes the old carry on. -/
def RotOp.carryNat : RotOp → Nat → Nat → Nat
  | .rlc | .rl | .sla => fun v _ => v / 128
  | .rrc | .rr | .sra | .srl => fun v _ => v % 2

/-- The operation field of a CB rotate or shift (R413). -/
def RotOp.code : RotOp → Nat
  | .rlc => 0 | .rrc => 1 | .rl => 2 | .rr => 3 | .sla => 4 | .sra => 5 | .srl => 7

/-- Bits written side by side are the high number, shifted past the low bits, plus the low number. -/
theorem toNat_append_eq_add {m n : Nat} (x : BitVec m) (y : BitVec n) :
    (x ++ y).toNat = x.toNat * 2 ^ n + y.toNat := by
  rw [BitVec.toNat_append, ← Nat.shiftLeft_add_eq_or_of_lt y.isLt, Nat.shiftLeft_eq]

theorem toNat_extractLsb'_eq_div_mod {w : Nat} (x : BitVec w) (start len : Nat) :
    (x.extractLsb' start len).toNat = x.toNat / 2 ^ start % 2 ^ len := by
  rw [BitVec.extractLsb'_toNat, Nat.shiftRight_eq_div_pow]

theorem RotOp.toNat_result (k : RotOp) (v : Byte) (c : Bool) :
    (k.result v c).toNat = k.resultNat v.toNat c.toNat := by
  have hv := v.isLt
  have hbit7 : v.toNat / 128 % 2 = v.toNat / 128 := by omega
  have hc := c.toNat_le
  cases k <;>
    simp only [RotOp.result, RotOp.resultNat, toNat_append_eq_add, toNat_extractLsb'_eq_div_mod,
      BitVec.toNat_ofBool, Bool.toNat_false, Nat.reducePow, Nat.div_one, hbit7] <;>
    omega

theorem RotOp.carry_eq_decide (k : RotOp) (v : Byte) (c : Nat) :
    k.carry v = decide (k.carryNat v.toNat c = 1) := by
  have hleft : v.getLsbD 7 = decide (v.toNat / 128 = 1) := by
    rw [Byte.sign, decide_eq_decide]
    omega
  have hright : v.getLsbD 0 = decide (v.toNat % 2 = 1) := Nat.testBit_zero v.toNat
  cases k with
  | rlc | rl | sla => exact hleft
  | rrc | rr | sra | srl => exact hright

/-! ### The accumulator rotates (R1101 to R1104) -/

theorem keeps_rotA (s : State) (k : RotOp) :
    KeepsAllBut [.reg .a, .flagH, .flagN, .flagC] s (s.rotA k) := by
  obtain ⟨-, hflags, hk⟩ := s.rotA_spec k
  exact hk.drop (by simp [allFlags, Part.same, hflags])

theorem rotatesA_of_exec {i : Instr} {op : Byte} (k : RotOp) (henc : HasEncoding i [op])
    (hexec : ∀ s, exec i s = .next ((s.rotA k).tick 4)) : RotatesA i op k.resultNat k.carryNat := by
  refine ⟨henc, fun s => ⟨_, hexec s, k.toNat_result _ _, ?_, (keeps_rotA s k).tick 4⟩⟩
  obtain ⟨-, hflags, -⟩ := s.rotA_spec k
  rwa [k.carry_eq_decide _ s.flags.c.toNat] at hflags

/-- Settles O44: each of the four is `rotA` of its operation. -/
theorem rotateAccumulator : Obligations.RotateAccumulator :=
  ⟨rotatesA_of_exec .rlc (hasEncoding_encode rfl) fun _ => rfl,
    rotatesA_of_exec .rl (hasEncoding_encode rfl) fun _ => rfl,
    rotatesA_of_exec .rrc (hasEncoding_encode rfl) fun _ => rfl,
    rotatesA_of_exec .rr (hasEncoding_encode rfl) fun _ => rfl⟩

/-! ### The rotates and shifts of m (R1105 to R1132) -/

theorem hasEncoding_rotForm (k : RotOp) (l : Loc8) : HasEncoding (rotForm k l) (cbBytes (8 * k.code) l) := by
  cases l with
  | reg _ | hl | ix _ | iy _ => cases k <;> exact hasEncoding_encode rfl

/-- The forms of an operation differ in their T-states only. -/
theorem exec_rotForm (k : RotOp) (l : Loc8) (s : State) :
    ∃ n, exec (rotForm k l) s = .next ((s.rotLoc k l).tick n) := by
  cases l with
  | reg _ | hl | ix _ | iy _ => cases k <;> exact ⟨_, rfl⟩

theorem rot8_flags (k : RotOp) (v : Byte) (c : Bool) : (rot8 k v c).flags =
    resultFlags (rot8 k v c).res false (evenOnes (rot8 k v c).res) false
      (decide (k.carryNat v.toNat c.toNat = 1)) := by
  rw [← parity_eq_evenOnes, ← k.carry_eq_decide]
  exact sz53_with _ _ _ _ _

theorem rotatesLoc (k : RotOp) : RotatesLoc k k.code k.resultNat k.carryNat := by
  refine fun l => ⟨hasEncoding_rotForm k l, fun s => ?_⟩
  obtain ⟨n, hn⟩ := exec_rotForm k l s
  obtain ⟨hw, hflags, hk⟩ := s.rotLoc_spec k l
  exact ⟨_, _, hn, k.toNat_result _ _, hw.tick n, hflags.trans (rot8_flags k _ _), hk.tick n⟩

/-- Settles O45, by `rotatesLoc`. -/
theorem rotateLeft : Obligations.RotateLeft := ⟨rotatesLoc .rlc, rotatesLoc .rl⟩

/-- Settles O46, by `rotatesLoc`. -/
theorem rotateRight : Obligations.RotateRight := ⟨rotatesLoc .rrc, rotatesLoc .rr⟩

/-- Settles O47, by `rotatesLoc`. -/
theorem shiftByte : Obligations.ShiftByte := ⟨rotatesLoc .sla, rotatesLoc .sra, rotatesLoc .srl⟩

/-! ### RLD and RRD (R1133, R1134) -/

/-- The bytes whose digits RLD and RRD move: A and the byte at HL. -/
def State.digits (s : State) : Byte × Byte := (s.regs.a, s.readMem s.hl)

/-- Both bytes written back, and the flags from the new A (R522). -/
def State.putDigits (s : State) (p : Byte × Byte) : State :=
  ((s.writeMem s.hl p.2).setA p.1).setFlags (rxd p.1 s.flags.c)

/-- RLD's new A and new byte at HL, from the old ones (R1133). -/
def digitsLeft (p : Byte × Byte) : Byte × Byte :=
  (p.1.extractLsb' 4 4 ++ p.2.extractLsb' 4 4, p.2.extractLsb' 0 4 ++ p.1.extractLsb' 0 4)

/-- RRD's new A and new byte at HL, from the old ones (R1134). -/
def digitsRight (p : Byte × Byte) : Byte × Byte :=
  (p.1.extractLsb' 4 4 ++ p.2.extractLsb' 0 4, p.1.extractLsb' 0 4 ++ p.2.extractLsb' 4 4)

theorem exec_rld (s : State) : exec .rld s = .next ((s.putDigits (digitsLeft s.digits)).tick 18) := rfl

theorem exec_rrd (s : State) : exec .rrd s = .next ((s.putDigits (digitsRight s.digits)).tick 18) := rfl

theorem toNat_digitsLeft (p : Byte × Byte) :
    (digitsLeft p).1.toNat = p.1.toNat / 16 * 16 + p.2.toNat / 16 ∧
      (digitsLeft p).2.toNat = p.2.toNat % 16 * 16 + p.1.toNat % 16 := by
  have h1 := p.1.isLt
  have h2 := p.2.isLt
  simp only [digitsLeft, toNat_append_eq_add, toNat_extractLsb'_eq_div_mod]
  omega

theorem toNat_digitsRight (p : Byte × Byte) :
    (digitsRight p).1.toNat = p.1.toNat / 16 * 16 + p.2.toNat % 16 ∧
      (digitsRight p).2.toNat = p.1.toNat % 16 * 16 + p.2.toNat / 16 := by
  have h1 := p.1.isLt
  have h2 := p.2.isLt
  simp only [digitsRight, toNat_append_eq_add, toNat_extractLsb'_eq_div_mod]
  omega

theorem digitsRight_digitsLeft (p : Byte × Byte) : digitsRight (digitsLeft p) = p := by
  have hl := toNat_digitsLeft p
  have hr := toNat_digitsRight (digitsLeft p)
  exact Prod.ext (BitVec.eq_of_toNat_eq (by omega)) (BitVec.eq_of_toNat_eq (by omega))

theorem digitsLeft_digitsRight (p : Byte × Byte) : digitsLeft (digitsRight p) = p := by
  have hr := toNat_digitsRight p
  have hl := toNat_digitsLeft (digitsRight p)
  exact Prod.ext (BitVec.eq_of_toNat_eq (by omega)) (BitVec.eq_of_toNat_eq (by omega))

/-- HL is not written, so the digits are read where they were put. -/
theorem State.digits_putDigits (s : State) (p : Byte × Byte) : (s.putDigits p).digits = p :=
  Prod.ext rfl (stores_writeMem s s.hl p.2).1

theorem State.putDigits_flags (s : State) (p : Byte × Byte) :
    (s.putDigits p).flags = resultFlags p.1 false (evenOnes p.1) false s.flags.c := by
  rw [State.putDigits, State.flags_setFlags, rxd, sz53_with, parity_eq_evenOnes]

theorem keeps_putDigits (s : State) (p : Byte × Byte) :
    KeepsAllBut (.mem :: .reg .a :: allFlags) s (s.putDigits p) :=
  ((keeps_writeMem s _ _).trans (keeps_setA _ _)).trans (keeps_setFlags _ _)

/-- Putting back the digits that stood there restores memory. -/
theorem State.readMem_putDigits_digits (s : State) (p : Byte × Byte) (x : Word) :
    ((s.putDigits p).putDigits s.digits).readMem x = s.readMem x := by
  show ((s.writeMem s.hl p.2).writeMem s.hl (s.readMem s.hl)).readMem x = s.readMem x
  rw [State.readMem_writeMem]
  split
  · next hx => rw [hx]
  · next hx => rw [State.readMem_writeMem, if_neg hx]

/-- An instruction `i` that moves the digits by `f`, and `j` that undoes it by `g`. -/
theorem movesDigits_of_exec {i j : Instr} {f g : Byte × Byte → Byte × Byte}
    (hi : ∀ s, exec i s = .next ((s.putDigits (f s.digits)).tick 18))
    (hj : ∀ s, exec j s = .next ((s.putDigits (g s.digits)).tick 18)) (hgf : ∀ p, g (f p) = p) (s : State) :
    ∃ t u, exec i s = .next t ∧ t.regs.a = (f s.digits).1 ∧ StoresByte s.hl (f s.digits).2 s t ∧
      t.flags = resultFlags t.regs.a false (evenOnes t.regs.a) false s.flags.c ∧
      KeepsAllBut (.mem :: .reg .a :: allFlags) s t ∧
      exec j t = .next u ∧ u.regs.a = s.regs.a ∧ ∀ x, u.readMem x = s.readMem x := by
  have hback : g ((s.putDigits (f s.digits)).tick 18).digits = s.digits :=
    (congrArg g (s.digits_putDigits _)).trans (hgf _)
  refine ⟨_, _, hi s, rfl, stores_writeMem s _ _, s.putDigits_flags _, (keeps_putDigits s _).tick 18, hj _, ?_⟩
  rw [hback]
  exact ⟨rfl, s.readMem_putDigits_digits _⟩

/-- Settles O48: the digits move by `digitsLeft` and `digitsRight`, each the inverse of the other. -/
theorem rotateDigits : Obligations.RotateDigits := by
  refine ⟨⟨hasEncoding_encode rfl, fun s => ?_⟩, hasEncoding_encode rfl, fun s => ?_⟩
  · obtain ⟨t, u, ht, ha, hm, hrest⟩ := movesDigits_of_exec exec_rld exec_rrd digitsRight_digitsLeft s
    obtain ⟨hleft, hleft'⟩ := toNat_digitsLeft s.digits
    exact ⟨t, u, _, ht, hleft', hm, ha ▸ hleft, hrest⟩
  · obtain ⟨t, u, ht, ha, hm, hrest⟩ := movesDigits_of_exec exec_rrd exec_rld digitsLeft_digitsRight s
    obtain ⟨hright, hright'⟩ := toNat_digitsRight s.digits
    exact ⟨t, u, _, ht, hright', hm, ha ▸ hright, hrest⟩

end Sys2Proof.Machine
end

section
/-! SUPPORT. The bit test, set and reset group (47_bit.md): the opcode with `b` in bits 5:3, the tested bit as a
digit of a number, and the one bit that SET and RES write. -/

namespace Sys2Proof.Machine

open Sys2Proof.Claims

/-! ### Encodings (R1200) -/

/-- In the memory forms the 6 of the register field moves past `b`'s field, to where the encoder adds it. -/
theorem hasEncoding_bitForms (b : Fin 8) (l : Loc8) :
    HasEncoding (bitForm b l) (cbBytes (0x40 + 8 * b.val) l) ∧
      HasEncoding (setForm b l) (cbBytes (0xC0 + 8 * b.val) l) ∧
      HasEncoding (resForm b l) (cbBytes (0x80 + 8 * b.val) l) := by
  cases l with
  | reg r => exact ⟨hasEncoding_encode rfl, hasEncoding_encode rfl, hasEncoding_encode rfl⟩
  | hl | ix _ | iy _ =>
    simp only [cbBytes, Nat.add_right_comm _ (8 * b.val) 6]
    exact ⟨hasEncoding_encode rfl, hasEncoding_encode rfl, hasEncoding_encode rfl⟩

/-! ### BIT b,m (R1201 to R1204) -/

/-- The forms of BIT b,m differ in their T-states only. -/
theorem exec_bitForm (b : Fin 8) (l : Loc8) (s : State) :
    ∃ n, exec (bitForm b l) s = .next ((s.bitTest b l).tick n) := by
  cases l <;> exact ⟨_, rfl⟩

theorem not_getLsbD_eq_decide {w : Nat} (v : BitVec w) (k : Nat) :
    (!v.getLsbD k) = decide (v.toNat / 2 ^ k % 2 = 0) := by
  rw [← BitVec.testBit_toNat, Nat.testBit_eq_decide_div_mod_eq, ← decide_not, decide_eq_decide,
    Nat.mod_two_not_eq_one]

theorem keeps_bitTest (s : State) (b : Fin 8) (l : Loc8) :
    KeepsAllBut [.flagS, .flagZ, .flagH, .flagPV, .flagN, .draws] s (s.bitTest b l) := by
  obtain ⟨hflags, -, hk⟩ := s.bitTest_spec b l
  exact hk.drop (by simp [allFlags, Part.same, hflags, bitFlags])

/-- Settles O49: the flags are those of `bitFlags` whatever bits are drawn for S and PV. -/
theorem testBit : Obligations.TestBit := by
  intro b l
  obtain ⟨hbit, -, -⟩ := hasEncoding_bitForms b l
  refine ⟨hbit, fun s => ?_⟩
  obtain ⟨n, hn⟩ := exec_bitForm b l s
  obtain ⟨hflags, -, -⟩ := s.bitTest_spec b l
  have hz := not_getLsbD_eq_decide (l.read s) b.val
  exact ⟨_, hn, (congrArg Flags.z hflags).trans hz, congrArg Flags.h hflags, congrArg Flags.n hflags,
    (keeps_bitTest s b l).tick n⟩

/-! ### SET b,m and RES b,m (R1205 to R1212) -/

/-- The forms of SET b,m differ in their T-states only. -/
theorem exec_setForm (b : Fin 8) (l : Loc8) (s : State) :
    ∃ n, exec (setForm b l) s = .next ((s.setBit b l).tick n) := by
  cases l <;> exact ⟨_, rfl⟩

/-- The forms of RES b,m differ in their T-states only. -/
theorem exec_resForm (b : Fin 8) (l : Loc8) (s : State) :
    ∃ n, exec (resForm b l) s = .next ((s.resBit b l).tick n) := by
  cases l <;> exact ⟨_, rfl⟩

/-- The mask of SET and RES has bit `b` and no other. -/
theorem getLsbD_bitMask (b : Fin 8) (k : Nat) : (1#8 <<< b.val).getLsbD k = decide (k = b.val) := by
  rw [← BitVec.twoPow_eq, BitVec.getLsbD_twoPow, decide_eq_true b.isLt, Bool.true_and, decide_eq_decide]
  exact eq_comm

theorem getLsbD_or_bitMask (v : Byte) (b : Fin 8) (k : Nat) :
    (v ||| 1#8 <<< b.val).getLsbD k = if k = b.val then true else v.getLsbD k := by
  rw [BitVec.getLsbD_or, getLsbD_bitMask]
  split <;> simp [*]

theorem getLsbD_and_not_bitMask (v : Byte) (b : Fin 8) {k : Nat} (hk : k < 8) :
    (v &&& ~~~(1#8 <<< b.val)).getLsbD k = if k = b.val then false else v.getLsbD k := by
  rw [BitVec.getLsbD_and, BitVec.getLsbD_not, getLsbD_bitMask]
  split <;> simp [*]

/-- Settles O50: SET and RES write the byte or-ed with the mask, or and-ed with its complement. -/
theorem setResetBit : Obligations.SetResetBit := by
  intro b l
  obtain ⟨-, hset, hres⟩ := hasEncoding_bitForms b l
  refine ⟨⟨hset, fun s => ?_⟩, hres, fun s => ?_⟩
  · obtain ⟨n, hn⟩ := exec_setForm b l s
    obtain ⟨hw, hk⟩ := s.setBit_spec b l
    exact ⟨_, _, hn, fun k _ => getLsbD_or_bitMask _ b k, hw.tick n, hk.tick n⟩
  · obtain ⟨n, hn⟩ := exec_resForm b l s
    obtain ⟨hw, hk⟩ := s.resBit_spec b l
    exact ⟨_, _, hn, fun _ hlt => getLsbD_and_not_bitMask _ b hlt, hw.tick n, hk.tick n⟩

end Sys2Proof.Machine
end

section
/-! SUPPORT. The jump, call and return group (48_jump_call_return.md): a jump is one write of PC, a relative jump,
a call and a return are the shared operation and the clock, or the clock alone. -/

namespace Sys2Proof.Machine

open Sys2Proof.Claims

/-! ### Conditions (R409) -/

theorem condHolds_flags (cc : Cond) (s : State) : condHolds cc s.flags = condTrue cc s.regs.f := by
  cases cc <;> rfl

/-! ### Jumps (R1301 to R1311) -/

theorem jumpsTo_of_exec {i : Instr} {target : State → Word} (n : Nat) (hw : i.wellFormed = true)
    (hexec : ∀ s, exec i s = .next ((s.setPC (target s)).tick n)) : JumpsTo i (encode i) target :=
  ⟨hasEncoding_encode hw, fun s => ⟨_, hexec s, rfl, (keeps_setPC s _).tick n⟩⟩

/-- Not taken, a jump to an address leaves PC as it is. -/
theorem exec_jpCcNn_eq_setPC (cc : Cond) (nn : Word) (s : State) : exec (.jpCcNn cc nn) s =
    .next ((s.setPC (if condTrue cc s.regs.f then nn else s.pc)).tick 10) := by
  rw [exec_jpCcNn, condHolds_flags]
  split <;> rfl

/-- Taken, a relative jump goes to PC plus the signed displacement (R1300); only PC and the clock change. -/
theorem State.jumpRelIf_spec (s : State) (taken : Bool) (e : Byte) (m n : Nat) :
    (if taken then IsOffset s.pc e (s.jumpRelIf taken e m n).pc else (s.jumpRelIf taken e m n).pc = s.pc) ∧
      KeepsAllBut [.pc] s (s.jumpRelIf taken e m n) := by
  cases taken with
  | true => exact ⟨indexed_toNat s.pc e, (keeps_setPC s _).tick m⟩
  | false => exact ⟨rfl, (keeps_tick s n).mono (by simp)⟩

theorem jumpsRelative_of_exec {i : Instr} {e : Byte} {taken : Byte → Bool} (n : Nat)
    (hw : i.wellFormed = true) (hexec : ∀ s, exec i s = .next (s.jumpRelIf (taken s.regs.f) e 12 n)) :
    JumpsRelative i (encode i) e taken :=
  ⟨hasEncoding_encode hw, fun s => ⟨_, hexec s, s.jumpRelIf_spec _ e 12 n⟩⟩

/-- A byte is 0 after a decrement exactly if it was 1 before. -/
theorem Byte.sub_one_eq_zero_iff (b : Byte) : b - 1 = 0 ↔ b = 1 := sub_eq_zero

/-- DJNZ is a relative jump from the state in which B is decremented (R1311). -/
theorem exec_djnz_spec (e : Byte) (s : State) : ∃ t, exec (.djnz e) s = .next t ∧
    t.reg .b = s.reg .b - 1 ∧ (if s.reg .b = 1 then t.pc = s.pc else IsOffset s.pc e t.pc) ∧
    KeepsAllBut [.reg .b, .pc] s t := by
  have hb := keeps_setB s (s.regs.b - 1)
  obtain ⟨hpc, hk⟩ := (s.setB (s.regs.b - 1)).jumpRelIf_spec (s.regs.b - 1 != 0) e 13 8
  refine ⟨_, rfl, hk (.reg .b) (by decide), ?_, hb.trans hk⟩
  simp only [bne_iff_ne, ne_eq, Byte.sub_one_eq_zero_iff, ite_not] at hpc
  exact hpc

/-- Settles O51: by `jumpsTo_of_exec` for JP, by `jumpsRelative_of_exec` for JR. -/
theorem jumps : Obligations.Jumps :=
  ⟨fun _ => jumpsTo_of_exec 10 rfl fun _ => rfl,
    fun cc nn => jumpsTo_of_exec 10 rfl (exec_jpCcNn_eq_setPC cc nn),
    fun _ => jumpsRelative_of_exec 7 rfl fun _ => rfl,
    fun _ => jumpsRelative_of_exec 7 rfl fun _ => rfl,
    fun _ => jumpsRelative_of_exec 7 rfl fun _ => rfl,
    fun _ => jumpsRelative_of_exec 7 rfl fun _ => rfl,
    fun _ => jumpsRelative_of_exec 7 rfl fun _ => rfl,
    jumpsTo_of_exec 4 rfl fun _ => rfl,
    jumpsTo_of_exec 8 rfl fun _ => rfl,
    jumpsTo_of_exec 8 rfl fun _ => rfl,
    fun e => ⟨hasEncoding_encode rfl, exec_djnz_spec e⟩⟩

/-! ### Calls (R1321, R1322, R1329) -/

theorem State.callTo_pushes (s : State) (target : Word) : Pushes s.pc s (s.callTo target) :=
  s.push16_pushes s.pc

theorem callsTo_of_exec {i : Instr} {target : Word} {taken : Byte → Bool} (m n : Nat)
    (hw : i.wellFormed = true)
    (hexec : ∀ s, exec i s = .next (if taken s.regs.f then (s.callTo target).tick m else s.tick n)) :
    CallsTo i (encode i) target taken := by
  refine ⟨hasEncoding_encode hw, fun s => ⟨_, hexec s, ?_⟩⟩
  split
  · obtain ⟨-, -, hpc, hk⟩ := s.callTo_spec target
    exact ⟨s.callTo_pushes target, hpc, hk.tick m⟩
  · exact keeps_tick s n

/-- Settles O52: every call is one `callTo`, under its condition. -/
theorem calls : Obligations.Calls :=
  ⟨fun _ => callsTo_of_exec 17 10 rfl fun _ => rfl,
    fun cc nn => callsTo_of_exec 17 10 rfl fun s => condHolds_flags cc s ▸ exec_callCcNn cc nn s,
    fun _ => callsTo_of_exec 11 0 rfl fun _ => rfl⟩

/-! ### Returns (R1323, R1324, R1327, R1328) -/

theorem keeps_setIff (s : State) (iff1 iff2 : Bool) : KeepsAllBut [.iff1, .iff2] s (s.setIff iff1 iff2) := by
  intro p hp
  cases p with
  | iff1 | iff2 => simp at hp
  | mem | port => exact fun _ => rfl
  | _ => rfl

/-- A return that leaves `iff1` in IFF1: RETN passes IFF2, and the others the value that stands there. -/
def State.returnWith (s : State) (iff1 : Bool) : State := s.returnTo.setIff iff1 s.iff2

theorem State.returnWith_spec (s : State) (iff1 : Bool) :
    (s.returnWith iff1).pc = popped s ∧ (s.returnWith iff1).sp = s.sp + 2 ∧ (s.returnWith iff1).iff1 = iff1 ∧
      KeepsAllBut [.pc, .sp, .iff1] s (s.returnWith iff1) := by
  obtain ⟨hpc, hsp, hk⟩ := s.returnTo_spec
  exact ⟨hpc, hsp, rfl, (hk.trans (keeps_setIff _ iff1 s.iff2)).drop (by simp [Part.same])⟩

theorem returns_of_exec {i : Instr} {taken : Byte → Bool} {iff1 : State → Bool} (m n : Nat)
    (hw : i.wellFormed = true)
    (hexec : ∀ s, exec i s = .next (if taken s.regs.f then (s.returnWith (iff1 s)).tick m else s.tick n)) :
    Returns i (encode i) taken iff1 := by
  refine ⟨hasEncoding_encode hw, fun s => ⟨_, hexec s, ?_⟩⟩
  split
  · obtain ⟨hpc, hsp, hiff1, hk⟩ := s.returnWith_spec (iff1 s)
    exact ⟨hpc, hsp, hiff1, hk.tick m⟩
  · exact keeps_tick s n

/-- Settles O53: every return is one `returnWith`, under its condition. -/
theorem returnsPopPC : Obligations.ReturnsPopPC :=
  ⟨returns_of_exec 10 0 rfl fun _ => rfl,
    fun cc => returns_of_exec 11 5 rfl fun s => condHolds_flags cc s ▸ exec_retCc cc s,
    returns_of_exec 14 0 rfl fun _ => rfl,
    returns_of_exec 14 0 rfl fun _ => rfl⟩

/-! ### A return right after a call (R1320) -/

/-- A call under its condition is `callTo` and the clock. -/
theorem exec_of_callsUnder {i : Instr} {s : State} (h : callsUnder s.regs.f i = true) :
    ∃ target n, exec i s = .next ((s.callTo target).tick n) := by
  cases i with
  | callNn nn => exact ⟨nn, 17, rfl⟩
  | rst p => exact ⟨restartAddress p, 11, rfl⟩
  | callCcNn cc nn =>
    have hc : condHolds cc s.flags = true := (condHolds_flags cc s).trans h
    exact ⟨nn, 17, (exec_callCcNn cc nn s).trans (congrArg _ (if_pos hc))⟩
  | _ => exact absurd h Bool.false_ne_true

/-- F is in the frame of a call, so a condition holds after it as before. -/
theorem call_spec {i : Instr} {s : State} (h : callsUnder s.regs.f i = true) :
    ∃ t, exec i s = .next t ∧ Pushes s.pc s t ∧ t.regs.f = s.regs.f ∧ KeepsAllBut [.mem, .sp, .pc] s t := by
  obtain ⟨target, n, ht⟩ := exec_of_callsUnder h
  obtain ⟨-, -, -, hk⟩ := s.callTo_spec target
  exact ⟨_, ht, s.callTo_pushes target, rfl, hk.tick n⟩

/-- A return under its condition is `returnWith` and the clock. -/
theorem exec_of_returnsUnder {r : Instr} {s : State} (h : returnsUnder s.regs.f r = true) :
    ∃ n, exec r s = .next ((s.returnWith (if r = .retn then s.iff2 else s.iff1)).tick n) := by
  cases r with
  | ret => exact ⟨10, rfl⟩
  | reti | retn => exact ⟨14, rfl⟩
  | retCc cc =>
    have hc : condHolds cc s.flags = true := (condHolds_flags cc s).trans h
    exact ⟨11, (exec_retCc cc s).trans (congrArg _ (if_pos hc))⟩
  | _ => exact absurd h Bool.false_ne_true

/-- Settles O54: the call leaves F, which the return's condition reads, and the return pops what it pushed. -/
theorem callThenReturn : Obligations.CallThenReturn := by
  intro i r s hi hr
  obtain ⟨t, ht, hpush, hf, hkt⟩ := call_spec hi
  have hiff1 : t.iff1 = s.iff1 := hkt .iff1 (by decide)
  have hiff2 : t.iff2 = s.iff2 := hkt .iff2 (by decide)
  obtain ⟨n, hu⟩ := exec_of_returnsUnder (hf.symm ▸ hr)
  rw [hiff1, hiff2] at hu
  obtain ⟨hpc, hsp, hiff, hku⟩ := t.returnWith_spec (if r = .retn then s.iff2 else s.iff1)
  rw [popped_of_pushes hpush] at hpc
  rw [sp_add_two_of_pushes hpush] at hsp
  refine ⟨t, _, ht, hpush, hu, hpc, hsp, hpush.1, hiff, ?_⟩
  exact ((hkt.trans hku).drop (by simp [Part.same, hpc, hsp])).tick n

end Sys2Proof.Machine
end

section
/-! SUPPORT. Input and output (49_io_and_cpu_control.md, section 1): one write of a register or of a port cell; an
element of a block instruction is its effect, of which input and output share the count and the flags, and then a
choice of PC. -/

namespace Sys2Proof.Machine

open Sys2Proof.Claims

/-! ### Single bytes (R1401, R1402, R1407, R1408) -/

theorem in8_eq_resultFlags (v : Byte) (c : Bool) : in8 v c = resultFlags v false (evenOnes v) false c := by
  rw [in8, sz53_with, parity_eq_evenOnes]

/-- The port is read once, at the old BC, for the register and for the flags (R1402). -/
theorem exec_inRC_spec (r : Reg8) (s : State) : ∃ t, exec (.inRC r) s = .next t ∧
    t.reg r = s.readPort s.bc ∧
    t.flags = resultFlags (s.readPort s.bc) false (evenOnes (s.readPort s.bc)) false s.flags.c ∧
    KeepsAllBut (.reg r :: allFlags) s t := by
  have hf := keeps_setFlags (s.setReg r (s.readPort s.bc)) (in8 (s.readPort s.bc) s.flags.c)
  have hr : (.reg r : Part) ∉ allFlags := by simp [allFlags]
  exact ⟨_, rfl, (hf (.reg r) hr).trans (s.reg_setReg_same r _),
    (State.flags_setFlags _ _).trans (in8_eq_resultFlags _ _), ((keeps_setReg s r _).trans hf).tick 12⟩

theorem outputs_of_exec {i : Instr} {addr : State → Word} {v : State → Byte} (n : Nat)
    (hw : i.wellFormed = true) (hexec : ∀ s, exec i s = .next ((s.writePort (addr s) (v s)).tick n)) :
    HasEncoding i (encode i) ∧ ∀ s, ∃ t, exec i s = .next t ∧ WritesPort (addr s) (v s) s t ∧
      KeepsAllBut [.port] s t :=
  ⟨hasEncoding_encode hw, fun s => ⟨_, hexec s, writes_writePort s _ _, (keeps_writePort s _ _).tick n⟩⟩

/-- Settles O55: IN writes one register, and its flags where it has any, and OUT one port cell. -/
theorem inputOutput : Obligations.InputOutput :=
  ⟨fun _ => ⟨hasEncoding_encode rfl, fun s => ⟨_, rfl, rfl, (keeps_setA s _).tick 11⟩⟩,
    fun r => ⟨hasEncoding_encode rfl, exec_inRC_spec r⟩,
    fun _ => outputs_of_exec 11 rfl fun _ => rfl,
    fun _ => outputs_of_exec 12 rfl fun _ => rfl⟩

/-! ### What block input and output share (R1403 to R1406, R1409 to R1412) -/

section BlockIo
variable {s u : State} {space : Part} {fs fh fpv : Bool}
  (hflags : u.flags = blockIoFlags (s.regs.b - 1) fs fh fpv s.flags)
include hflags

/-- Z and N of an element, whatever the unspecified bits `fs`, `fh` and `fpv` are. -/
theorem blockIo_flags : u.flags.z = decide (s.reg .b = 1) ∧ u.flags.n = true := by
  rw [hflags]
  exact ⟨decide_eq_decide.mpr (Byte.sub_one_eq_zero_iff s.regs.b), rfl⟩

/-- C, F5 and F3 are written with what stood there. -/
theorem keeps_blockIo (hk : KeepsAllBut ([space, .reg .h, .reg .l, .reg .b] ++ allFlags ++ [.draws]) s u) :
    KeepsAllBut [space, .reg .h, .reg .l, .reg .b, .flagS, .flagZ, .flagH, .flagPV, .flagN, .draws] s u :=
  hk.drop (by simp [allFlags, Part.same, hflags, blockIoFlags])

end BlockIo

/-- An element that leaves PC goes on to the next instruction or back to its own first byte, as B tells. -/
theorem State.repeatIf_b_eq_setPC {s u : State} (repeats : Bool) (hb : u.regs.b = s.regs.b - 1)
    (hpc : u.pc = s.pc) : ∃ n, u.repeatIf (repeats && u.regs.b != 0) =
      (u.setPC (if repeats ∧ s.reg .b ≠ 1 then s.pc - 2 else s.pc)).tick n := by
  obtain ⟨n, hn⟩ := u.repeatIf_eq_setPC (repeats && u.regs.b != 0)
  have hreg : s.reg .b = s.regs.b := rfl
  refine ⟨n, hn.trans ?_⟩
  simp only [hpc, hb, hreg, Bool.and_eq_true, bne_iff_ne, ne_eq, Byte.sub_one_eq_zero_iff]

/-! ### Block input (R1403 to R1406) -/

/-- The non-repeating forms are those that never repeat: `repeatIf false` is their clock. -/
theorem inputsBlock_of_exec {i : Instr} {op : Byte} {k : Cursor} {delta : Word} {repeats : Bool}
    (henc : HasEncoding i [0xED, op]) (hmove : ∀ v, k.move v = v + delta)
    (hexec : ∀ s, exec i s = .next ((s.blockIn k).repeatIf (repeats && (s.blockIn k).regs.b != 0))) :
    InputsBlock i op delta repeats := by
  refine ⟨henc, fun s => ?_⟩
  obtain ⟨hmem, hhl, hb, hflags, -, hall⟩ := s.blockIn_spec k
  obtain ⟨hz, hn⟩ := blockIo_flags hflags
  have hk := keeps_blockIo hflags hall
  obtain ⟨n, ht⟩ := State.repeatIf_b_eq_setPC repeats hb (hk .pc (by decide))
  exact ⟨_, (hexec s).trans (congrArg _ ht), hmem, hhl.trans (hmove _), hb, hz, hn, rfl,
    (hk.trans (keeps_setPC _ _)).tick n⟩

/-- Settles O56: every form is `blockIn`, up or down, and a choice of PC. -/
theorem blockInput : Obligations.BlockInput :=
  ⟨inputsBlock_of_exec (hasEncoding_encode rfl) Cursor.move_up fun _ => rfl,
    inputsBlock_of_exec (hasEncoding_encode rfl) Cursor.move_up fun _ => rfl,
    inputsBlock_of_exec (hasEncoding_encode rfl) Cursor.move_down fun _ => rfl,
    inputsBlock_of_exec (hasEncoding_encode rfl) Cursor.move_down fun _ => rfl⟩

/-! ### Block output (R1409 to R1412) -/

/-- As for the inputs; the port cell takes the place of the byte of memory. -/
theorem outputsBlock_of_exec {i : Instr} {op : Byte} {k : Cursor} {delta : Word} {repeats : Bool}
    (henc : HasEncoding i [0xED, op]) (hmove : ∀ v, k.move v = v + delta)
    (hexec : ∀ s, exec i s = .next ((s.blockOut k).repeatIf (repeats && (s.blockOut k).regs.b != 0))) :
    OutputsBlock i op delta repeats := by
  refine ⟨henc, fun s => ?_⟩
  obtain ⟨hport, hhl, hb, hflags, -, hall⟩ := s.blockOut_spec k
  obtain ⟨hz, hn⟩ := blockIo_flags hflags
  have hk := keeps_blockIo (space := .port) hflags (hall.mono (by decide))
  obtain ⟨n, ht⟩ := State.repeatIf_b_eq_setPC repeats hb (hk .pc (by decide))
  exact ⟨_, (hexec s).trans (congrArg _ ht), hport, hhl.trans (hmove _), hb, hz, hn, rfl,
    (hk.trans (keeps_setPC _ _)).tick n⟩

/-- Settles O57: every form is `blockOut`, up or down, and a choice of PC. -/
theorem blockOutput : Obligations.BlockOutput :=
  ⟨outputsBlock_of_exec (hasEncoding_encode rfl) Cursor.move_up fun _ => rfl,
    outputsBlock_of_exec (hasEncoding_encode rfl) Cursor.move_up fun _ => rfl,
    outputsBlock_of_exec (hasEncoding_encode rfl) Cursor.move_down fun _ => rfl,
    outputsBlock_of_exec (hasEncoding_encode rfl) Cursor.move_down fun _ => rfl⟩

end Sys2Proof.Machine
end

section
/-! SUPPORT. The general-purpose arithmetic and CPU control group (49_io_and_cpu_control.md, section 2): DAA and NEG
said about the integers, the flags that CPL, CCF and SCF leave, and one write of a control register. -/

namespace Sys2Proof.Machine

open Sys2Proof.Claims

/-! ### DAA (R530, R1421) -/

theorem daa8_res (a : Byte) (n c h : Bool) : ((daa8 a n c h).res.toNat : Int) =
    (if n then (a.toNat : Int) - (daaCorr a c h).toNat else a.toNat + (daaCorr a c h).toNat) % 256 := by
  have ha := a.isLt
  cases n with
  | true =>
    show ((a - daaCorr a c h).toNat : Int) = (a.toNat - (daaCorr a c h).toNat) % 256
    rw [BitVec.toNat_sub]
    omega
  | false =>
    show ((a + daaCorr a c h).toNat : Int) = (a.toNat + (daaCorr a c h).toNat) % 256
    rw [BitVec.toNat_add]
    omega

theorem daa8_flags (a : Byte) (n c h : Bool) : (daa8 a n c h).flags =
    resultFlags (daa8 a n c h).res
      (if n then h && decide (a.toNat % 16 < 6) else decide (9 < a.toNat % 16))
      (evenOnes (daa8 a n c h).res) n (decide (c = true ∨ 0x99 < a.toNat)) := by
  rw [← parity_eq_evenOnes, Bool.decide_or, Bool.decide_eq_true]
  exact sz53_with _ _ _ _ _

/-! ### NEG (R1423) -/

theorem neg8_res (a : Byte) : (sub8 0 a false).res.toNat = (256 - a.toNat) % 256 := by
  have hres := sub8_res 0 a false
  have ha := a.isLt
  have h0 : (0 : Byte).toNat = 0 := rfl
  rw [h0, Bool.toNat_false] at hres
  omega

/-- 0 - A borrows unless A is 0, into the low nibble unless that is 0, and overflows from -128 only. -/
theorem neg8_flags (a : Byte) : (sub8 0 a false).flags =
    resultFlags (sub8 0 a false).res (decide (a.toNat % 16 ≠ 0)) (decide (a = 0x80)) true
      (decide (a ≠ 0)) := by
  obtain ⟨-, hflags⟩ := sub8_isDiff8 0 a false
  have h0 : (0 : Byte).toInt = 0 := rfl
  have hh : (0 : Byte).toNat % 16 < a.toNat % 16 + false.toNat ↔ a.toNat % 16 ≠ 0 := by
    rw [Bool.toNat_false]
    bv_omega
  have hpv : (0 : Byte).toInt - a.toInt - false.toNat < -128 ∨
      127 < (0 : Byte).toInt - a.toInt - false.toNat ↔ a = 0x80 := by
    rw [h0, Byte.toInt_eq, Bool.toNat_false]
    split <;> bv_omega
  have hc : (0 : Byte).toNat < a.toNat + false.toNat ↔ a ≠ 0 := by
    rw [Bool.toNat_false]
    bv_omega
  simpa only [hh, hpv, hc] using hflags

/-! ### The accumulator and its flags (R1421 to R1425) -/

/-- A and all of F written. -/
theorem keeps_setA_setFlags (s : State) (v : Byte) (fl : Flags) :
    KeepsAllBut (.reg .a :: allFlags) s ((s.setA v).setFlags fl) :=
  (keeps_setA s v).trans (keeps_setFlags _ fl)

theorem toNat_xor_255 (v : Byte) : (v ^^^ 0xFF).toNat = 255 - v.toNat := by
  have hnot : v ^^^ 0xFF = ~~~v := BitVec.xor_allOnes
  rw [hnot, BitVec.toNat_not]

/-- CCF and SCF write H, N and C: the other flags get their old values. -/
theorem writesCarry_of_exec {i : Instr} {h c : Flags → Bool} (hw : i.wellFormed = true)
    (hexec : ∀ s, exec i s =
      .next ((s.setFlags { s.flags with h := h s.flags, n := false, c := c s.flags }).tick 4)) :
    HasEncoding i (encode i) ∧ ∀ s, ∃ t, exec i s = .next t ∧
      t.flags = { s.flags with h := h s.flags, n := false, c := c s.flags } ∧
      KeepsAllBut [.flagH, .flagN, .flagC] s t :=
  ⟨hasEncoding_encode hw, fun s => ⟨_, hexec s, State.flags_setFlags _ _,
    ((keeps_setFlags s _).drop (by simp [allFlags, Part.same])).tick 4⟩⟩

/-- Settles O58: DAA by `daa8_res` and `daa8_flags`, NEG by `neg8_res` and `neg8_flags`. -/
theorem adjustAccumulator : Obligations.AdjustAccumulator := by
  refine ⟨⟨hasEncoding_encode rfl, fun s => ⟨_, rfl, ?_, ?_, (keeps_setA_setFlags s _ _).tick 4⟩⟩,
    ⟨hasEncoding_encode rfl, fun s => ⟨_, rfl, toNat_xor_255 _, State.flags_setFlags _ _, ?_⟩⟩,
    ⟨hasEncoding_encode rfl, fun s => ⟨_, rfl, neg8_res _, ?_, (keeps_setA_setFlags s _ _).tick 8⟩⟩,
    writesCarry_of_exec (h := Flags.c) (c := fun fl => !fl.c) rfl fun _ => rfl,
    writesCarry_of_exec (h := fun _ => false) (c := fun _ => true) rfl fun _ => rfl⟩
  · have hres := daa8_res s.regs.a s.flags.n s.flags.c s.flags.h
    simp only [daaCorr_toNat, Bool.or_eq_true, decide_eq_true_iff] at hres
    exact hres
  · exact (State.flags_setFlags _ _).trans (daa8_flags _ _ _ _)
  · exact ((keeps_setA_setFlags s _ _).drop (by simp [allFlags, Part.same])).tick 4
  · exact (State.flags_setFlags _ _).trans (neg8_flags _)

/-! ### CPU control (R1426, R1430 to R1435) -/

theorem keeps_setHalt (s : State) : KeepsAllBut [.halt] s s.setHalt := by
  intro p hp
  cases p with
  | halt => simp at hp
  | mem | port => exact fun _ => rfl
  | _ => rfl

theorem keeps_setIM (s : State) (m : IntMode) : KeepsAllBut [.im] s (s.setIM m) := by
  intro p hp
  cases p with
  | im => simp at hp
  | mem | port => exact fun _ => rfl
  | _ => rfl

/-- Settles O59: each is one write of a control register, or none, and the clock. -/
theorem controlInstructions : Obligations.ControlInstructions :=
  ⟨⟨hasEncoding_encode rfl, fun s => ⟨_, rfl, keeps_tick s 4⟩⟩,
    ⟨hasEncoding_encode rfl, fun s => ⟨_, rfl, rfl, (keeps_setHalt s).tick 4⟩⟩,
    ⟨hasEncoding_encode rfl, fun s => ⟨_, rfl, rfl, rfl, (keeps_setIff s _ _).tick 4⟩⟩,
    ⟨hasEncoding_encode rfl, fun s => ⟨_, rfl, rfl, rfl, (keeps_setIff s _ _).tick 4⟩⟩,
    ⟨hasEncoding_encode rfl, fun s => ⟨_, rfl, rfl, (keeps_setIM s _).tick 8⟩⟩,
    ⟨hasEncoding_encode rfl, fun s => ⟨_, rfl, rfl, (keeps_setIM s _).tick 8⟩⟩,
    hasEncoding_encode rfl, fun s => ⟨_, rfl, rfl, (keeps_setIM s _).tick 8⟩⟩

end Sys2Proof.Machine
end

section
/-! SUPPORT. Steps and the one event of the core (60_exceptions.md): a step always has a next state, in the halt state
the same one, and `unimpl_seen` and DIAG are reached by the unimplemented encodings only. -/

namespace Sys2Proof.Machine

open Sys2Proof.Claims

/-! ### Every step answers with a next state (R1500, R1531) -/

/-- Settles O8: any four bytes decode, and every instruction answers with a next state. -/
theorem stepAlwaysAnswersNext : Obligations.StepAlwaysAnswersNext := by
  intro s
  cases hhalt : s.halt with
  | true => exact ⟨_, step_of_halt hhalt⟩
  | false =>
    obtain ⟨i, rest, hd, -, -⟩ := everyFourBytesDecode (s.readMem s.pc) (s.readMem (s.pc + 1))
      (s.readMem (s.pc + 2)) (s.readMem (s.pc + 3))
    obtain ⟨t, ht⟩ := exec_next i (s.beginInstr (fetchedLength rest))
    exact ⟨t, (step_of_decode hhalt hd).trans ht⟩

/-- Settles O7: the step in the halt state is `idle`. -/
theorem haltedStepChangesNothing : Obligations.HaltedStepChangesNothing := fun _ => step_of_halt

/-! ### The sticky bit and DIAG (R1501, R1502) -/

/-- No event has been raised from `s` to `t`. -/
def State.Quiet (s t : State) : Prop := t.unimplSeen = s.unimplSeen ∧ t.diag = s.diag

namespace State.Quiet

theorem refl (s : State) : s.Quiet s := ⟨rfl, rfl⟩

variable {s t : State} (h : s.Quiet t)
include h

theorem tick (n : Nat) : s.Quiet (t.tick n) := h

theorem writeMem (a : Word) (v : Byte) : s.Quiet (t.writeMem a v) := h

theorem writeMem16 (a v : Word) : s.Quiet (t.writeMem16 a v) := (h.writeMem a _).writeMem (a + 1) _

theorem push16 (v : Word) : s.Quiet (t.push16 v) :=
  (h.writeMem (t.sp - 1) (hiByte v)).writeMem (t.sp - 2) (loByte v)

theorem callTo (target : Word) : s.Quiet (t.callTo target) := h.push16 t.pc

theorem repeatIf (again : Bool) : s.Quiet (t.repeatIf again) := by
  cases again <;> exact h

theorem jumpRelIf (taken : Bool) (e : Byte) (m n : Nat) : s.Quiet (t.jumpRelIf taken e m n) := by
  cases taken <;> exact h

end State.Quiet

/-- Only the meanings of the unimplemented encodings raise an event. -/
theorem exec_quiet {i : Instr} (hi : i.isUnimplemented = false) (s : State) :
    ∃ t, exec i s = .next t ∧ s.Quiet t := by
  cases i with
  | unimplCb | unimplEd | unimplDd | unimplFd | unimplDdCb | unimplFdCb =>
    exact absurd hi.symm Bool.false_ne_true
  | ldDdNn dd | ldDdMem dd | incSs dd | decSs dd => exact ⟨_, rfl, by cases dd <;> exact ⟨rfl, rfl⟩⟩
  | popQq qq => exact ⟨_, rfl, by cases qq <;> exact ⟨rfl, rfl⟩⟩
  | ldMemHl | ldMemDd | ldMemIx | ldMemIy => exact ⟨_, rfl, ((State.Quiet.refl s).writeMem16 _ _).tick _⟩
  | pushQq | pushIx | pushIy => exact ⟨_, rfl, ((State.Quiet.refl s).push16 _).tick _⟩
  | callNn | rst => exact ⟨_, rfl, ((State.Quiet.refl s).callTo _).tick _⟩
  | ldir | lddr | cpir | cpdr | inir | indr | otir | otdr =>
    exact ⟨_, rfl, State.Quiet.repeatIf ⟨rfl, rfl⟩ _⟩
  | jrC | jrNc | jrZ | jrNz | djnz => exact ⟨_, rfl, State.Quiet.jumpRelIf ⟨rfl, rfl⟩ _ _ _ _⟩
  | jpCcNn cc nn => exact ⟨_, exec_jpCcNn cc nn s, by split <;> exact ⟨rfl, rfl⟩⟩
  | callCcNn cc nn =>
    refine ⟨_, exec_callCcNn cc nn s, ?_⟩
    split
    · exact ((State.Quiet.refl s).callTo nn).tick 17
    · exact ⟨rfl, rfl⟩
  | retCc cc => exact ⟨_, exec_retCc cc s, by split <;> exact ⟨rfl, rfl⟩⟩
  | _ => exact ⟨_, rfl, rfl, rfl⟩

theorem events_of_exec {i : Instr} {s t : State} (h : exec i s = .next t) :
    if i.isUnimplemented then t.unimplSeen = true ∧ t.diag.isSome = true else s.Quiet t := by
  cases hi : i.isUnimplemented with
  | true =>
    rw [exec_of_isUnimplemented hi] at h
    obtain rfl := Host.Outcome.next.inj h
    exact ⟨rfl, rfl⟩
  | false =>
    obtain ⟨u, hu, hq⟩ := exec_quiet hi s
    obtain rfl : u = t := Host.Outcome.next.inj (hu.symm.trans h)
    exact hq

/-- A step starts with DIAG not asserted, so it is asserted after the step by this step's event only. -/
theorem unimplSeen_of_step {s t : State} (hstep : step s = .next t) :
    t.unimplSeen = true ↔ s.unimplSeen = true ∨ t.diag.isSome = true := by
  rcases step_cases s with ⟨-, hs⟩ | ⟨i, rest, -, -, hs⟩ | ⟨e, -, -, hs⟩
  · obtain rfl : s.idle = t := Host.Outcome.next.inj (hs.symm.trans hstep)
    simp
  · have he := events_of_exec (hs.symm.trans hstep)
    split at he
    · obtain ⟨hseen, hdiag⟩ := he
      simp [hseen, hdiag]
    · obtain ⟨hseen, hdiag⟩ := he
      simp [hseen, hdiag]
  · exact nomatch hs.symm.trans hstep

theorem State.applyHost_unimplSeen_iff (s : State) (act : HostAction) :
    (s.applyHost act).unimplSeen = true ↔ s.unimplSeen = true ∧ ∀ draw, act ≠ .reset draw := by
  cases act with
  | load bytes addr =>
    have hk : (s.load bytes addr).unimplSeen = s.unimplSeen := keeps_load s bytes addr .unimplSeen (by simp)
    simp [applyHost, hk]
  | presetReg n alt v => simp [applyHost, presetReg, setRegSet_fields]
  | presetPair n alt v => simp [applyHost, presetPair, setRegSet_fields]
  | presetIndexHalf n v => cases n <;> simp [applyHost, presetIndexHalf]
  | _ => simp [applyHost]

/-- Settles O20: only an unimplemented encoding raises the event, and only the host's reset clears the bit. -/
theorem unimplSeenIsSticky : Obligations.UnimplSeenIsSticky :=
  ⟨fun _ _ => unimplSeen_of_step, fun _ _ _ => events_of_exec, State.applyHost_unimplSeen_iff⟩

/-! ### Words written out from the spec -/

/-- Settles O5: by running the decoder on each word. -/
theorem specWordsDecode : Obligations.SpecWordsDecode := by
  unfold Obligations.SpecWordsDecode
  decide

end Sys2Proof.Machine
end
